-- ==== Sys2Proof/Word.lean ====
section
/-! DEFINITION. The plain data types of the decode core. A byte is a bit vector. A pulse duration is an
unsigned count of `DUR_W` bits (00_scope.md R7, R9): the core only compares it with thresholds, never
adds, shifts or masks it, and its width is a parameter; so durations are natural numbers throughout
(log entry 4), and that one fits `DUR_W` bits is checked where it enters (30_encoding.md R71) and kept as
an invariant. -/

namespace Sys2Proof

/-- A byte: the unit a RainGauge frame is packed into (20_memory.md R53) and the byte an
operation id is written in. -/
abbrev Byte := BitVec 8

end Sys2Proof
end

