-- ==== Sys2Proof/Config.lean ====
section
/-! DEFINITION. The implementation parameters of 00_scope.md rule R7, as one read-only record. -/

namespace Sys2Proof

/-- The configuration record of R7. Every threshold and constant is a parameter; the defaults are
the document's. `TIME_UNIT` stands apart (`Config.timeUnit`): no rule reads it. -/
structure Config where
  /-- `DUR_W`: width in bits of a pulse duration. -/
  durW : Nat := 16
  /-- `SENTINEL`: the duration that means "no pulse within timeout". -/
  sentinel : Nat := 0
  /-- `RG_SHORT_MIN`, `RG_SHORT_MAX`: the RainGauge short window (bit 1). -/
  rgShortMin : Nat := 900
  rgShortMax : Nat := 1100
  /-- `RG_LONG_MIN`, `RG_LONG_MAX`: the RainGauge long window (bit 0). -/
  rgLongMin : Nat := 2500
  rgLongMax : Nat := 2900
  /-- `RG_SYNC_MIN`, `RG_SYNC_MAX`: the RainGauge sync window. -/
  rgSyncMin : Nat := 7300
  rgSyncMax : Nat := 7700
  /-- `F7_SHORT_MIN`, `F7_SHORT_MAX`: the F007TP short window (bit 1). -/
  f7ShortMin : Nat := 350
  f7ShortMax : Nat := 600
  /-- `F7_LONG_MIN`, `F7_LONG_MAX`: the F007TP long window (bit 0). -/
  f7LongMin : Nat := 1350
  f7LongMax : Nat := 1600
  /-- `PREAMBLE_RUN`: a long pulse syncs F007TP when the short run is more than this. -/
  preambleRun : Nat := 3
  /-- `CNT_MAX`: saturation value of the short-run counter. -/
  cntMax : Nat := 7
  /-- `MAX_ATTEMPTS`: pulses examined per search before TimedOut. -/
  maxAttempts : Nat := 10000
  /-- `ATT_W`: width of the attempt counter. -/
  attW : Nat := 14
  /-- `RG_RAIN_OFFSET`: added to the raw rainfall value. -/
  rgRainOffset : Nat := 10
  /-- `RG_RAIN_NUM`, `RG_RAIN_DEN`: the rainfall scale factor as a ratio. -/
  rgRainNum : Nat := 108
  rgRainDen : Nat := 100
  /-- `RG_TEMP_OFFSET`: encoding offset of the raw temperature. -/
  rgTempOffset : Nat := 900
  /-- `RG_TEMP_F0`: 32 degrees Fahrenheit in tenths. -/
  rgTempF0 : Nat := 320
  /-- `RG_TEMP_DIV`: tenths of a degree Fahrenheit per degree Celsius. The core never divides by it
  (44_field_extractor.md R183): it is the denominator a consumer puts under `rg_temp_num`. -/
  rgTempDiv : Nat := 18
  /-- `F7_HEADER`: the fixed pattern of frame bits 0 to 3, its first character the most significant
  bit (R11). -/
  f7Header : BitVec 4 := 0b0100#4
  /-- `F7_ID_BIAS`: added to the 3-bit id. -/
  f7IdBias : Nat := 1
  /-- `CRC_POLY`: the CRC-8 generator, x^8 term implicit. -/
  crcPoly : Nat := 0x31
  /-- `CRC_INIT`: the CRC-8 initial value. -/
  crcInit : Nat := 0x00
  deriving DecidableEq, Repr

/-- The configuration with every parameter at its default (R7). -/
def Config.default : Config := {}

/-- `TIME_UNIT`: the physical time of one duration count, in seconds. The spec leaves it OPEN (R7,
70_reset_and_hazards.md R262, 92_eei_decisions.md D31) and no rule depends on it; so it is a constant
with no body, and nothing in the model reads it. Log entry 17. -/
opaque Config.timeUnit : Rat

end Sys2Proof
end

