-- ==== Sys2Proof/Syntax.lean ====
section
/-! DEFINITION. The operations of the core: one constructor per row of spec/opcode_table.json, in the
order of 30_encoding.md rule R83. -/

namespace Sys2Proof

/-- The operations of R83. The core has no instruction words (R70): an operation has no operand
fields, and takes its operands from the input port, the registers and the nets. -/
inductive Instr where
  /-- 0x00 HOLD (step), 45_cycle.md R201. -/
  | hold
  /-- 0x01 CLASSIFY_RG (combinational), 40_classifier.md R101. -/
  | classifyRg
  /-- 0x02 CLASSIFY_F7 (combinational), 40_classifier.md R102. -/
  | classifyF7
  /-- 0x03 DETECT_STEP (step), 41_detector.md R121. -/
  | detectStep
  /-- 0x04 CAPTURE_RG (step), 42_frame_decoder.md R140. -/
  | captureRg
  /-- 0x05 CAPTURE_F7 (step), 42_frame_decoder.md R142. -/
  | captureF7
  /-- 0x06 PACK_RG (combinational), 42_frame_decoder.md R144. -/
  | packRg
  /-- 0x07 PACK_F7 (combinational), 42_frame_decoder.md R146. -/
  | packF7
  /-- 0x08 CHECKSUM_RG (combinational), 43_integrity.md R160. -/
  | checksumRg
  /-- 0x09 HEADER_F7 (combinational), 43_integrity.md R162. -/
  | headerF7
  /-- 0x0A CRC8_F7 (combinational), 43_integrity.md R163. -/
  | crc8F7
  /-- 0x0B EXTRACT_RG (combinational), 44_field_extractor.md R180. -/
  | extractRg
  /-- 0x0C EXTRACT_F7 (combinational), 44_field_extractor.md R187. -/
  | extractF7
  /-- 0x0D FINISH_RG (step), 45_cycle.md R205. -/
  | finishRg
  /-- 0x0E FINISH_F7 (step), 45_cycle.md R206. -/
  | finishF7
  /-- 0x0F CYCLE_START (combinational sub-step), 45_cycle.md R203. -/
  | cycleStart
  /-- 0x10 RESET (step), 70_reset_and_hazards.md R250. -/
  | reset
  deriving DecidableEq, Repr

end Sys2Proof
end

