-- ==== Sys2Proof/WellFormed.lean ====
section
/-! DEFINITION. Well-formedness of the two things a term of this model can be written wrong in: an
operation, which has no operand field and so nothing to check, and a configuration, whose twelve
checks are those of 00_scope.md rule R8. The checks (a) to (l) themselves stand in
Machine/ConfigCheck.lean. -/

namespace Sys2Proof

/-- An operation of R83 has no operand fields: every one is well-formed. -/
def Instr.wellFormed : Instr → Bool
  | .hold | .classifyRg | .classifyF7 | .detectStep | .captureRg | .captureF7 | .packRg | .packF7
  | .checksumRg | .headerF7 | .crc8F7 | .extractRg | .extractF7 | .finishRg | .finishF7
  | .cycleStart | .reset => true

end Sys2Proof
end

