-- ==== Sys2Proof/Machine/ConfigCheck.lean ====
section
/-! DEFINITION. The well-formedness of a configuration: 00_scope.md rule R8, check by check. -/

namespace Sys2Proof

/-- Two open intervals have no point in common (R8(c), (d)); log entry 3. -/
def openDisjoint (min₁ max₁ min₂ max₂ : Nat) : Bool :=
  decide (max₁ ≤ min₂) || decide (max₂ ≤ min₁)

/-- A value lies inside the open interval `(min, max)`: `in(d, MIN, MAX)` of R12 and
40_classifier.md R100. Both bounds are outside. -/
def inWindow (d min max : Nat) : Bool := decide (min < d) && decide (d < max)

namespace Config

/-- R8(a): every window has `MIN < MAX`. -/
def windowsOpen (c : Config) : Bool :=
  decide (c.rgShortMin < c.rgShortMax) && decide (c.rgLongMin < c.rgLongMax)
    && decide (c.rgSyncMin < c.rgSyncMax) && decide (c.f7ShortMin < c.f7ShortMax)
    && decide (c.f7LongMin < c.f7LongMax)

/-- R8(b): every `MAX` is at most `2^DUR_W − 1`. -/
def maximaFit (c : Config) : Bool :=
  decide (c.rgShortMax ≤ 2 ^ c.durW - 1) && decide (c.rgLongMax ≤ 2 ^ c.durW - 1)
    && decide (c.rgSyncMax ≤ 2 ^ c.durW - 1) && decide (c.f7ShortMax ≤ 2 ^ c.durW - 1)
    && decide (c.f7LongMax ≤ 2 ^ c.durW - 1)

/-- R8(c): the three RainGauge windows are pairwise disjoint as open intervals. -/
def rgDisjoint (c : Config) : Bool :=
  openDisjoint c.rgShortMin c.rgShortMax c.rgLongMin c.rgLongMax
    && openDisjoint c.rgShortMin c.rgShortMax c.rgSyncMin c.rgSyncMax
    && openDisjoint c.rgLongMin c.rgLongMax c.rgSyncMin c.rgSyncMax

/-- R8(d): the two F007TP windows are disjoint. -/
def f7Disjoint (c : Config) : Bool :=
  openDisjoint c.f7ShortMin c.f7ShortMax c.f7LongMin c.f7LongMax

/-- R8(e): `SENTINEL` lies in no window. -/
def sentinelOutside (c : Config) : Bool :=
  !inWindow c.sentinel c.rgShortMin c.rgShortMax && !inWindow c.sentinel c.rgLongMin c.rgLongMax
    && !inWindow c.sentinel c.rgSyncMin c.rgSyncMax
    && !inWindow c.sentinel c.f7ShortMin c.f7ShortMax
    && !inWindow c.sentinel c.f7LongMin c.f7LongMax

/-- R8(f): `1 ≤ MAX_ATTEMPTS ≤ 2^ATT_W − 1`. -/
def attemptsFit (c : Config) : Bool :=
  decide (1 ≤ c.maxAttempts) && decide (c.maxAttempts ≤ 2 ^ c.attW - 1)

/-- R8(g): `PREAMBLE_RUN + 1 ≤ CNT_MAX ≤ 2^3 − 1`. -/
def runFits (c : Config) : Bool :=
  decide (c.preambleRun + 1 ≤ c.cntMax) && decide (c.cntMax ≤ 2 ^ 3 - 1)

/-- R8(h): `RG_RAIN_DEN ≥ 1` and `RG_TEMP_DIV ≥ 1`. -/
def divisorsPositive (c : Config) : Bool :=
  decide (1 ≤ c.rgRainDen) && decide (1 ≤ c.rgTempDiv)

/-- R8(i): `CRC_INIT` and `CRC_POLY` fit in 8 bits. -/
def crcFits (c : Config) : Bool :=
  decide (c.crcInit < 2 ^ 8) && decide (c.crcPoly < 2 ^ 8)

/-- R8(j): `RG_TEMP_OFFSET + RG_TEMP_F0 ≤ 2^16`. -/
def tempFits (c : Config) : Bool := decide (c.rgTempOffset + c.rgTempF0 ≤ 2 ^ 16)

/-- R8(k): the largest rainfall fits in 17 bits. -/
def rainFits (c : Config) : Bool :=
  decide (((2 ^ 16 - 1) + c.rgRainOffset) * c.rgRainNum / c.rgRainDen ≤ 2 ^ 17 - 1)

/-- R8(l): `F7_ID_BIAS ≤ 8`. -/
def idFits (c : Config) : Bool := decide (c.f7IdBias ≤ 8)

/-- R8: the configuration is well-formed: all of (a) to (l) hold. -/
def wellFormed (c : Config) : Bool :=
  c.windowsOpen && c.maximaFit && c.rgDisjoint && c.f7Disjoint && c.sentinelOutside
    && c.attemptsFit && c.runFits && c.divisorsPositive && c.crcFits && c.tempFits
    && c.rainFits && c.idFits

end Config

end Sys2Proof
end

