-- ==== Sys2Proof/Machine/State.lean ====
section
/-! DEFINITION. The state of the core: every storage element of 10_state.md, the input port, the
configuration, and the model's own fields (marked as such); the reasons a step stops; and the state
right after reset. -/

namespace Sys2Proof.Machine

/-- PulseClass, 30_encoding.md R73 (its 2-bit code appears on no port). -/
inductive PulseClass where
  | invalid
  | shortBit
  | longBit
  | syncMarker
  deriving DecidableEq, Repr

/-- The input port on one clock edge: `rst` (70_reset_and_hazards.md R250), `in_valid` and `in_dur`
(30_encoding.md R71). -/
structure PortIn where
  rst : Bool
  inValid : Bool
  inDur : Nat
  deriving DecidableEq, Repr

/-- The RainGauge field group of the result registers (10_state.md R27, 30_encoding.md R80). -/
structure RgFields where
  /-- `rg_bytes`: `{byte[0], …, byte[7]}`, byte[0] in bits 63..56. -/
  bytes : BitVec 64
  /-- `rg_id`, u16. -/
  id : BitVec 16
  /-- `rg_rain_raw`, u16. -/
  rainRaw : BitVec 16
  /-- `rg_rain`, u17. -/
  rain : BitVec 17
  /-- `rg_temp_raw`, u16. -/
  tempRaw : BitVec 16
  /-- `rg_temp_num`, s17 in two's complement (00_scope.md R9). -/
  tempNum : BitVec 17
  /-- `rg_lowbat`. -/
  lowbat : Bool
  /-- `rg_reset`. -/
  reset : Bool
  deriving DecidableEq, Repr

/-- The F007TP field group of the result registers (10_state.md R27, 30_encoding.md R80). -/
structure F7Fields where
  /-- `f7_bits`: `{f[0], …, f[39]}`, f[0] in bit 39. -/
  bits : BitVec 40
  /-- `f7_id`, u4. -/
  id : BitVec 4
  /-- `f7_sign`. -/
  sign : Bool
  /-- `f7_mag`, u11. -/
  mag : BitVec 11
  /-- `f7_int`, u8. -/
  int : BitVec 8
  /-- `f7_frac`, u4. -/
  frac : BitVec 4
  /-- `f7_hum`, u8. -/
  hum : BitVec 8
  deriving DecidableEq, Repr

/-- A field group with every field 0 (R80). -/
def RgFields.zero : RgFields := ⟨0, 0, 0, 0, 0, 0, false, false⟩

/-- A field group with every field 0 (R80). -/
def F7Fields.zero : F7Fields := ⟨0, 0, false, 0, 0, 0, 0⟩

/-- The result registers (10_state.md R27): the output port (30_encoding.md R72). -/
structure ResultRegs where
  /-- `res_valid`. -/
  valid : Bool
  /-- `res_status`, the codes of 30_encoding.md R78. -/
  status : BitVec 3
  /-- `res_proto`, the codes of 30_encoding.md R75. -/
  proto : BitVec 2
  rg : RgFields
  f7 : F7Fields
  deriving DecidableEq, Repr

/-- Every result register 0: the output of an edge that emits no token (R27) and after reset (R252). -/
def ResultRegs.zero : ResultRegs := ⟨false, 0, 0, .zero, .zero⟩

/-- The MODEL's own record of what the combinational units last showed when evaluated on their own
(log entry 9). None of it is state of the core (10_state.md R30): no clocked operation reads or writes
it. `none` says that the unit rejected (PACK_RG, PACK_F7) or was not computed. -/
structure Nets where
  /-- CLASSIFY_RG's class. -/
  clsRg : PulseClass
  /-- CLASSIFY_F7's class. -/
  clsF7 : PulseClass
  /-- PACK_RG's answer: `Ok` with the bytes, byte[0] in bits 63..56, or `Reject`. -/
  packRg : Option (BitVec 64)
  /-- PACK_F7's answer: `Ok` with the frame, f[0] in bit 39, or `Reject`. -/
  packF7 : Option (BitVec 40)
  /-- CHECKSUM_RG's answer. -/
  checksumRg : Option Bool
  /-- HEADER_F7's answer. -/
  headerF7 : Option Bool
  /-- CRC8_F7's answer. -/
  crc8F7 : Option (BitVec 8)
  /-- EXTRACT_RG's fields. -/
  extractRg : RgFields
  /-- EXTRACT_F7's fields. -/
  extractF7 : F7Fields
  deriving DecidableEq, Repr

/-- The nets before any unit was evaluated on its own; log entry 14. -/
def Nets.initial : Nets :=
  ⟨.invalid, .invalid, none, none, none, none, none, .zero, .zero⟩

/-- The state of the core. -/
structure State where
  /-- The configuration in force at this step: a parameter, not state (R7, R252). Log entry 1. -/
  cfg : Config
  /-- The configuration the core was built with (R258). No operation writes it. Log entry 1. -/
  built : Config
  /-- `state`, the decode-cycle phase (R22), with the codes of R76. -/
  phase : BitVec 3
  /-- `cnt`, the F007TP short-run counter (R23). -/
  cnt : BitVec 3
  /-- `att`, the search attempt counter of `ATT_W` bits (R24). Log entry 4. -/
  att : Nat
  /-- `idx`, the capture index (R25). -/
  idx : BitVec 6
  /-- `raw[0..63]`, the capture buffer (R26). -/
  raw : Vector Nat 64
  /-- Which entries of `raw` count as written in the current cycle (R26, R203, R250). Log entry 6. -/
  written : Vector Bool 64
  /-- The result registers (R27). -/
  res : ResultRegs
  /-- The input port at the coming clock edge (R71, R250). -/
  port : PortIn
  /-- The MODEL's own: the input port at the clock edges after that one, in order. Log entry 7. -/
  pending : List PortIn
  /-- The MODEL's own: the outputs of combinational units evaluated on their own. Log entry 9. -/
  nets : Nets
  /-- The MODEL's own: an operation id asked to be run instead of a clock edge. Log entry 9. -/
  request : Option Byte
  deriving DecidableEq, Repr

/-- Why the model stops in a fault: 60_exceptions.md R234 and 10_state.md R33. The hardware has no
counterpart. Each is safe: the model can prove less, never more. -/
inductive Fault where
  /-- `state` holds 011 to 111 on an edge with a valid token (30_encoding.md R77). Raised by the
  selection of the operation. Safe. -/
  | illegalPhase
  /-- `idx` is out of range for its phase on an edge with a valid token (R33, R25). Raised by the
  selection of the operation. Safe. -/
  | indexOutOfRange
  /-- `cnt` or `att` is out of range for its phase on an edge with a valid token (R33, R23, R24).
  Raised by the selection of the operation. Safe. Log entry 12. -/
  | counterOutOfRange
  /-- A capture-buffer entry that counts as unwritten is read (R26). Raised by FINISH_RG, FINISH_F7,
  PACK_RG and PACK_F7. Safe. -/
  | unwrittenEntryRead
  deriving DecidableEq, Repr

/-- Why the model refuses. Each is safe: the model can prove less, never more. -/
inductive Refusal where
  /-- An operation with no meaning in this model, by its mnemonic in the opcode table. No operation
  of this model is left so. Safe. -/
  | notModelled (mnemonic : String)
  /-- The configuration is not well-formed (00_scope.md R8). Raised by every operation. Safe. -/
  | configNotWellFormed
  /-- The configuration differs from the one the core was built with (70_reset_and_hazards.md R258).
  Raised by every operation. Safe. -/
  | configChanged
  /-- A token that does not fit `DUR_W` bits stands on the input port (R71, R9). Raised by every
  operation that takes the token as its operand. Safe. Log entry 4. -/
  | durationTooWide
  /-- A step operation is asked for on an edge for which R82 does not select it. Raised by every step
  operation. Safe. Log entry 11. -/
  | notSelected
  /-- The requested byte is no operation id (30_encoding.md R84). Raised by the fetch. Safe. Log
  entry 16. -/
  | unassignedOpId
  deriving DecidableEq, Repr

/-- What an operation answers. -/
abbrev Outcome := Host.Outcome State Fault Refusal

/-- An idle clock edge: no reset, no token. -/
def PortIn.idle : PortIn := ⟨false, false, 0⟩

/-- The machine right after reset (70_reset_and_hazards.md R250, R252): SEARCH, counters and index 0,
outputs 0, every buffer entry unwritten. The buffer's values (log entry 5), the idle input port and
the empty input to come (log entry 8), the nets (log entry 14) and the configuration at its defaults
(log entry 1) are the model's. -/
def State.reset : State where
  cfg := .default
  built := .default
  phase := 0#3
  cnt := 0#3
  att := 0
  idx := 0#6
  raw := Vector.replicate 64 0
  written := Vector.replicate 64 false
  res := .zero
  port := .idle
  pending := []
  nets := .initial
  request := none

end Sys2Proof.Machine
end

