-- ==== Sys2Proof/Machine/Ops.lean ====
section
/-! DEFINITION. The named operations over the registers, the result token, and the checks that stand
before every operation. The core's analogue of taking an exception is `State.endCycle`: the outcome
token is emitted and the per-cycle registers are cleared (60_exceptions.md R230); of returning from
one there is none (R231). -/

namespace Sys2Proof.Machine

/-! The phases of `state` and their codes (30_encoding.md R76). -/

/-- SEARCH: the protocol detector is running. -/
abbrev phaseSearch : BitVec 3 := 0#3
/-- CAP_RG: a RainGauge frame is being captured. -/
abbrev phaseCapRg : BitVec 3 := 1#3
/-- CAP_F7: an F007TP frame is being captured. -/
abbrev phaseCapF7 : BitVec 3 := 2#3

/-! The result token, in the sum form 30_encoding.md R80 suggests. -/

/-- The two wire protocols (00_scope.md R2). -/
inductive Protocol where
  | rainGauge
  | f007tp
  deriving DecidableEq, Repr

/-- Why a frame is rejected (60_exceptions.md R223 to R226). -/
inductive Reject where
  | pulse
  | header
  | checksum
  | crc
  deriving DecidableEq, Repr

/-- A result token (30_encoding.md R80). -/
inductive Token where
  | timeout
  | reject (why : Reject) (proto : Protocol)
  | acceptRg (fields : RgFields)
  | acceptF7 (fields : F7Fields)
  deriving DecidableEq, Repr

/-- `res_proto`'s code of a protocol (30_encoding.md R75). -/
def protocolCode : Protocol → BitVec 2
  | .rainGauge => 0b01#2
  | .f007tp => 0b10#2

/-- `res_proto` of a token (R75); None is reported only with TIMEOUT. -/
def tokenProto : Token → BitVec 2
  | .timeout => 0b00#2
  | .reject _ p => protocolCode p
  | .acceptRg _ => protocolCode .rainGauge
  | .acceptF7 _ => protocolCode .f007tp

/-- `res_status` of a token (30_encoding.md R78). -/
def tokenStatus : Token → BitVec 3
  | .acceptRg _ => 0b000#3
  | .acceptF7 _ => 0b000#3
  | .timeout => 0b001#3
  | .reject .pulse _ => 0b010#3
  | .reject .header _ => 0b011#3
  | .reject .checksum _ => 0b100#3
  | .reject .crc _ => 0b101#3

/-- The RainGauge field group of a token: 0 but in an accepted RainGauge frame (R80). -/
def tokenRg : Token → RgFields
  | .acceptRg fields => fields
  | _ => .zero

/-- The F007TP field group of a token: 0 but in an accepted F007TP frame (R80). -/
def tokenF7 : Token → F7Fields
  | .acceptF7 fields => fields
  | _ => .zero

/-- The result registers a token is laid out in (R80). -/
def tokenRegs (t : Token) : ResultRegs :=
  ⟨true, tokenStatus t, tokenProto t, tokenRg t, tokenF7 t⟩

/-! Register operations. -/

/-- An edge that emits no token sets every result register to 0 (10_state.md R27). -/
def State.clearResult (s : State) : State := { s with res := .zero }

/-- `emit R` (60_exceptions.md R220): the token is loaded into the result registers. -/
def State.emit (t : Token) (s : State) : State := { s with res := tokenRegs t }

/-- CYCLE_START's writes (45_cycle.md R203): SEARCH, counters and index 0, and every buffer entry
counts as unwritten while its contents are left as they are. -/
def State.startCycle (s : State) : State :=
  { s with phase := phaseSearch, cnt := 0#3, att := 0, idx := 0#6,
           written := Vector.replicate 64 false }

/-- The end of a decode cycle: the token is emitted and the next cycle prepared, in one step
(R203, 60_exceptions.md R230). -/
def State.endCycle (t : Token) (s : State) : State := (s.emit t).startCycle

/-- A sync: the capture phase is entered with index and counters 0 (41_detector.md R121). -/
def State.enterCapture (phase : BitVec 3) (s : State) : State :=
  { s with phase := phase, idx := 0#6, cnt := 0#3, att := 0 }

/-- `raw[idx] <- d`; the entry counts as written from here on (10_state.md R26). -/
def State.writeRaw (d : Nat) (s : State) : State :=
  { s with raw := s.raw.set s.idx.toNat d s.idx.isLt,
           written := s.written.set s.idx.toNat true s.idx.isLt }

/-- A captured pulse: `raw[idx] <- d; idx <- idx + 1` (42_frame_decoder.md R140, R142). -/
def State.capture (d : Nat) (s : State) : State :=
  { s.writeRaw d with idx := s.idx + 1#6 }

/-- A search step that neither syncs nor times out stores both counters (41_detector.md R121). -/
def State.countAttempt (cnt : Nat) (s : State) : State :=
  { s with cnt := BitVec.ofNat 3 cnt, att := s.att + 1 }

/-- What RESET writes (70_reset_and_hazards.md R250): the cycle-start values and cleared outputs. -/
def State.resetRegisters (s : State) : State := s.startCycle.clearResult

/-- The MODEL's own: the nets a unit evaluated on its own now shows. -/
def State.showNets (nets : Nets) (s : State) : State := { s with nets := nets }

/-! Checks before an operation. -/

/-- Why the configuration in force may not be stepped, if it may not: it was changed (R258) or is not
well-formed (R8). -/
def configRefusal (s : State) : Option Refusal :=
  if s.cfg ≠ s.built then some .configChanged
  else if s.cfg.wellFormed then none
  else some .configNotWellFormed

/-- `answer`, unless the configuration is refused. -/
def withConfig (s : State) (answer : Outcome) : Outcome :=
  match configRefusal s with
  | some r => .refused r
  | none => answer

/-- `use` of the token's duration, which must fit the port's `DUR_W` bits (R71). -/
def withToken (s : State) (use : Nat → Outcome) : Outcome :=
  if s.port.inDur < 2 ^ s.cfg.durW then use s.port.inDur else .refused .durationTooWide

/-- `use` of the buffer entries `raw[0..n-1]`; reading an unwritten one faults (R26). -/
def withCaptured (s : State) (n : Nat) (use : List Nat → Outcome) : Outcome :=
  if (s.written.toList.take n).all id then use (s.raw.toList.take n)
  else .fault .unwrittenEntryRead

end Sys2Proof.Machine
end

