-- ==== Sys2Proof/Machine/Operands.lean ====
section
/-! DEFINITION. The operand forms of the core: frame bits and slices (00_scope.md R11), packed bytes
(20_memory.md R53, R56), and the sequence of durations a frame is made of (42_frame_decoder.md R143). -/

namespace Sys2Proof.Machine

/-- The value of a sequence of bits, the first the most significant (R11). -/
def bitsValue (bits : List Bool) : Nat := bits.foldl (fun acc b => 2 * acc + b.toNat) 0

/-- `f[i]`: the i-th frame bit received. A frame of n bits is held with `f[0]` in its top bit
(30_encoding.md R80), so this is the numbering of R11, the reverse of R10. -/
def frameBit {n : Nat} (f : BitVec n) (i : Nat) : Bool := f.getMsbD i

/-- The frame bits `f[a..b]`, the first received first. -/
def frameBits {n : Nat} (f : BitVec n) (a b : Nat) : List Bool :=
  (List.range' a (b + 1 - a)).map (frameBit f)

/-- `val(f, a, b)` of R11: frame bits a to b, the lowest index most significant. -/
def val {n : Nat} (f : BitVec n) (a b : Nat) : Nat := bitsValue (frameBits f a b)

/-- `byte[k]`: frame bits 8k to 8k+7 (20_memory.md R53 for RainGauge, R56 for F007TP). -/
def frameByte {n : Nat} (f : BitVec n) (k : Nat) : Byte := BitVec.ofNat 8 (val f (8 * k) (8 * k + 7))

/-- A two-byte big-endian field (20_memory.md R54). -/
def bigEndian (high low : Byte) : Nat := high.toNat * 256 + low.toNat

/-- A two-byte little-endian field (20_memory.md R54). -/
def littleEndian (low high : Byte) : Nat := low.toNat + high.toNat * 256

/-- `use` of the frame's durations `D = raw[0..n-1] ++ [d]`, d being the token consumed in this step
(R143, 20_memory.md R60). -/
def withFrame (s : State) (n : Nat) (use : List Nat → Outcome) : Outcome :=
  withToken s fun d => withCaptured s n fun ds => use (ds ++ [d])

end Sys2Proof.Machine
end

