-- ==== Sys2Proof/Machine/Flags.lean ====
section
/-! DEFINITION. The flag-like output bits of an accepted frame (10_state.md R28). The core has no
condition codes; nothing inside it reads these. -/

namespace Sys2Proof.Machine

/-- `rg_lowbat`: byte 2, bit 7 (44_field_extractor.md R184); 1 means low battery. -/
def rgLowbat (bytes : BitVec 64) : Bool := (frameByte bytes 2).getLsbD 7

/-- `rg_reset`: byte 2, bit 6 (R184). -/
def rgReset (bytes : BitVec 64) : Bool := (frameByte bytes 2).getLsbD 6

/-- `f7_sign`: `f[12]` (R189); 1 means negative. -/
def f7Sign (f : BitVec 40) : Bool := frameBit f 12

end Sys2Proof.Machine
end

