-- ==== Sys2Proof/Decode.lean ====
section
/-! DEFINITION. The operation ids of 30_encoding.md rules R83 and R84: a decoder, total on any bytes
and rejecting by name, and the encoder. The ids are bookkeeping numbers of the spec (R70): no port
carries them, and a clock edge selects its operation without them (R82, Machine/Select.lean). -/

namespace Sys2Proof

/-- Why bytes are no operation. -/
inductive DecodeError where
  /-- There is no byte to decode. -/
  | noByte
  /-- Ids 0x11 to 0x1F are unassigned (R84). -/
  | unassigned (id : BitVec 5)
  /-- The byte is over 0x1F: not a 5-bit operation id (R70). Log entry 16. -/
  | notAnOpId (b : Byte)
  deriving DecidableEq, Repr

/-- The operation a 5-bit id names (R83), if it names one. -/
def opOfId (id : BitVec 5) : Option Instr :=
  match id.toNat with
  | 0x00 => some .hold
  | 0x01 => some .classifyRg
  | 0x02 => some .classifyF7
  | 0x03 => some .detectStep
  | 0x04 => some .captureRg
  | 0x05 => some .captureF7
  | 0x06 => some .packRg
  | 0x07 => some .packF7
  | 0x08 => some .checksumRg
  | 0x09 => some .headerF7
  | 0x0A => some .crc8F7
  | 0x0B => some .extractRg
  | 0x0C => some .extractF7
  | 0x0D => some .finishRg
  | 0x0E => some .finishF7
  | 0x0F => some .cycleStart
  | 0x10 => some .reset
  | _ => none

/-- Decoding of one byte: a 5-bit operation id with bits 7 to 5 zero. -/
def decodeByte (b : Byte) : Except DecodeError Instr :=
  if 0x1F < b.toNat then .error (.notAnOpId b)
  else match opOfId (b.setWidth 5) with
    | some i => .ok i
    | none => .error (.unassigned (b.setWidth 5))

/-- Decoding of a byte sequence: the operation in its first byte. -/
def decode : List Byte → Except DecodeError Instr
  | [] => .error .noByte
  | b :: _ => decodeByte b

/-- The operation id of an operation (R83). -/
def opId : Instr → BitVec 5
  | .hold => 0x00#5
  | .classifyRg => 0x01#5
  | .classifyF7 => 0x02#5
  | .detectStep => 0x03#5
  | .captureRg => 0x04#5
  | .captureF7 => 0x05#5
  | .packRg => 0x06#5
  | .packF7 => 0x07#5
  | .checksumRg => 0x08#5
  | .headerF7 => 0x09#5
  | .crc8F7 => 0x0A#5
  | .extractRg => 0x0B#5
  | .extractF7 => 0x0C#5
  | .finishRg => 0x0D#5
  | .finishF7 => 0x0E#5
  | .cycleStart => 0x0F#5
  | .reset => 0x10#5

/-- The byte of an operation: its id, zero-extended. -/
def encode (i : Instr) : List Byte := [(opId i).setWidth 8]

/-- The bytes of a table word, the least significant byte first. -/
def bytesOfWord : Nat → Nat → List Byte
  | 0, _ => []
  | n + 1, w => BitVec.ofNat 8 w :: bytesOfWord n (w / 256)

/-- The operation the decoder reads from a row's bits, given in whole bytes. -/
def decodeTableWord (nbits w : Nat) : Option Instr :=
  (decode (bytesOfWord ((nbits + 7) / 8) w)).toOption

end Sys2Proof
end

