-- ==== Sys2Proof/Machine/Select.lean ====
section
/-! DEFINITION. Which operation a clock edge performs (30_encoding.md R82, 45_cycle.md R200), the
fetch of an operation asked for on its own, and what every operation does besides its own effect:
consuming the edge's inputs, or the request. -/

namespace Sys2Proof.Machine

/-- The invariant R33 of 10_state.md on the registers, as the fault a state that breaks it raises:
the phase must be legal (30_encoding.md R77), `idx` in range for it, and `cnt` and `att` in range. -/
def registerFault (s : State) : Option Fault :=
  if s.phase = phaseSearch then
    if s.idx ≠ 0#6 then some .indexOutOfRange
    else if s.cnt.toNat ≤ s.cfg.cntMax ∧ s.att < s.cfg.maxAttempts then none
    else some .counterOutOfRange
  else if s.phase = phaseCapRg then
    if s.cnt = 0#3 ∧ s.att = 0 then none else some .counterOutOfRange
  else if s.phase = phaseCapF7 then
    if 38 < s.idx.toNat then some .indexOutOfRange
    else if s.cnt = 0#3 ∧ s.att = 0 then none
    else some .counterOutOfRange
  else some .illegalPhase

/-- The operation of an edge with a valid token: lines 4 to 8 of R82. -/
def tokenOp (s : State) : Instr :=
  if s.phase = phaseSearch then .detectStep
  else if s.phase = phaseCapRg then
    if s.idx.toNat < 63 then .captureRg else .finishRg
  else
    if s.idx.toNat < 38 then .captureF7 else .finishF7

/-- The operation a clock edge performs, in the order of R82. -/
def select (s : State) : Except Fault Instr :=
  if s.port.rst then .ok .reset
  else if !s.port.inValid then .ok .hold
  else match registerFault s with
    | some f => .error f
    | none => .ok (tokenOp s)

/-- The kind column of R83: the operations a clock edge performs; the others are combinational. -/
def isStepOp : Instr → Bool
  | .hold | .detectStep | .captureRg | .captureF7 | .finishRg | .finishF7 | .reset => true
  | .classifyRg | .classifyF7 | .packRg | .packF7 | .checksumRg | .headerF7 | .crc8F7
  | .extractRg | .extractF7 | .cycleStart => false

/-- What a step is to run. -/
inductive Fetched where
  | op (i : Instr)
  | fault (f : Fault)
  | refused (r : Refusal)
  deriving DecidableEq, Repr

/-- The operation of the coming step: the one asked for (log 9), or else the one the edge selects. -/
def fetch (s : State) : Fetched :=
  match s.request with
  | some b =>
    match decode [b] with
    | .ok i => .op i
    | .error _ => .refused .unassignedOpId
  | none =>
    match select s with
    | .ok i => .op i
    | .error f => .fault f

/-- A clock edge has passed: the environment presents the next edge's inputs, and with none to come an
idle edge (70_reset_and_hazards.md R256, R260; log 7). A request is taken once. -/
def State.nextEdge (s : State) : State :=
  { s with port := s.pending.headD .idle, pending := s.pending.tail, request := none }

/-- An operation evaluated on its own takes the request, and no clock edge passes (log 9). -/
def State.takeRequest (s : State) : State := { s with request := none }

/-- An answer whose next state, if it is one, is changed by f. -/
def onNext (f : State → State) : Outcome → Outcome
  | .next s => .next (f s)
  | .fault r => .fault r
  | .refused r => .refused r

/-- A step operation's answer on the edge that selects it, with the token consumed (R82, R200); a stop
on any other edge (log 11). -/
def clockEdge (i : Instr) (s : State) (answer : Outcome) : Outcome :=
  withConfig s <|
    match select s with
    | .error f => .fault f
    | .ok j => if j = i then onNext State.nextEdge answer else .refused .notSelected

/-- A combinational operation's answer, evaluated on its own (log 9). -/
def onItsOwn (s : State) (answer : Outcome) : Outcome :=
  withConfig s (onNext State.takeRequest answer)

end Sys2Proof.Machine
end

