-- ==== Sys2Proof/Machine/Integrity.lean ====
section
/-! DEFINITION. The integrity validators (43_integrity.md): CHECKSUM_RG, HEADER_F7, CRC8_F7. -/

namespace Sys2Proof.Machine

/-- CHECKSUM_RG (R160): the 8-bit accumulator over bytes 0 to 6 against byte 7. -/
def checksumRg (bytes : BitVec 64) : Bool :=
  decide ((List.range 7).foldl (fun acc k => acc + frameByte bytes k) 0#8 = frameByte bytes 7)

/-- HEADER_F7 (R162): `f[0..3]` against the fixed pattern. -/
def headerF7 (c : Config) (f : BitVec 40) : Bool :=
  decide (frameBits f 0 3 = frameBits c.f7Header 0 3)

/-- One bit of the CRC-8 engine (R163). -/
def crcStep (poly : Byte) (crc : Byte) (bit : Bool) : Byte :=
  if (crc.getLsbD 7 ^^ bit) = true then (crc <<< 1) ^^^ poly else crc <<< 1

/-- The CRC-8 engine over a sequence of bits (R163, R166). -/
def crcBits (c : Config) (bits : List Bool) : Byte :=
  bits.foldl (crcStep (BitVec.ofNat 8 c.crcPoly)) (BitVec.ofNat 8 c.crcInit)

/-- CRC8_F7 (R163): the CRC-8 of `f[0..31]`. -/
def crc8F7 (c : Config) (f : BitVec 40) : Byte := crcBits c (frameBits f 0 31)

/-- The comparison of R164: the computed CRC against the received `f[32..39]`. -/
def crcMatches (crc : Byte) (f : BitVec 40) : Bool := decide (crc.toNat = val f 32 39)

/-- CHECKSUM_RG (R160), evaluated on what PACK_RG shows; not computed where that is a rejection
(42_frame_decoder.md R145). -/
def execChecksumRg (s : State) : Outcome :=
  onItsOwn s <| .next (s.showNets { s.nets with checksumRg := s.nets.packRg.map checksumRg })

/-- HEADER_F7 (R162), evaluated on what PACK_F7 shows; not computed where that is a rejection
(42_frame_decoder.md R147). -/
def execHeaderF7 (s : State) : Outcome :=
  onItsOwn s <|
    .next (s.showNets { s.nets with headerF7 := s.nets.packF7.map (headerF7 s.cfg) })

/-- What CRC8_F7 shows: the CRC of what PACK_F7 shows where the header check passed, and nothing
otherwise (R162: "a frame that fails it gets no CRC computation"). -/
def shownCrc8F7 (c : Config) (nets : Nets) : Option Byte :=
  match nets.packF7, nets.headerF7 with
  | some f, some true => some (crc8F7 c f)
  | _, _ => none

/-- CRC8_F7 (R163), evaluated on what PACK_F7 and HEADER_F7 show. -/
def execCrc8F7 (s : State) : Outcome :=
  onItsOwn s <| .next (s.showNets { s.nets with crc8F7 := shownCrc8F7 s.cfg s.nets })

end Sys2Proof.Machine
end

