-- ==== Sys2Proof/Machine/Extractor.lean ====
section
/-! DEFINITION. The field extractors (44_field_extractor.md): EXTRACT_RG and EXTRACT_F7. Every sum,
product and difference is an exact integer, and fits its field under 00_scope.md rule R8. -/

namespace Sys2Proof.Machine

/-- `rg_rain_raw` (R182): bytes 3 and 4, little-endian. -/
def rgRainRaw (bytes : BitVec 64) : Nat := littleEndian (frameByte bytes 3) (frameByte bytes 4)

/-- `rg_temp_raw` (R183): bytes 5 and 6, little-endian. -/
def rgTempRaw (bytes : BitVec 64) : Nat := littleEndian (frameByte bytes 5) (frameByte bytes 6)

/-- `rg_rain` (R182): the scaled rainfall, truncated. -/
def rgRain (c : Config) (raw : Nat) : Nat := (raw + c.rgRainOffset) * c.rgRainNum / c.rgRainDen

/-- `rg_temp_num` (R183): the numerator of the temperature in degrees Celsius over `RG_TEMP_DIV`. -/
def rgTempNum (c : Config) (raw : Nat) : Int := (raw : Int) - c.rgTempOffset - c.rgTempF0

/-- EXTRACT_RG (R180). -/
def extractRg (c : Config) (bytes : BitVec 64) : RgFields where
  bytes := bytes
  id := BitVec.ofNat 16 (bigEndian (frameByte bytes 0) (frameByte bytes 1))
  rainRaw := BitVec.ofNat 16 (rgRainRaw bytes)
  rain := BitVec.ofNat 17 (rgRain c (rgRainRaw bytes))
  tempRaw := BitVec.ofNat 16 (rgTempRaw bytes)
  tempNum := BitVec.ofInt 17 (rgTempNum c (rgTempRaw bytes))
  lowbat := rgLowbat bytes
  reset := rgReset bytes

/-- EXTRACT_F7 (R187). -/
def extractF7 (c : Config) (f : BitVec 40) : F7Fields where
  bits := f
  id := BitVec.ofNat 4 (val f 5 7 + c.f7IdBias)
  sign := f7Sign f
  mag := BitVec.ofNat 11 (val f 13 23)
  int := BitVec.ofNat 8 (val f 13 23 / 10)
  frac := BitVec.ofNat 4 (val f 13 23 % 10)
  hum := BitVec.ofNat 8 (val f 24 31)

/-- What EXTRACT_RG shows: the fields of a frame that PACK_RG packed and CHECKSUM_RG passed, and 0
otherwise (R196). -/
def shownRgFields (c : Config) (nets : Nets) : RgFields :=
  match nets.packRg, nets.checksumRg with
  | some bytes, some true => extractRg c bytes
  | _, _ => .zero

/-- What EXTRACT_F7 shows: the fields of a frame that PACK_F7 packed, HEADER_F7 passed and whose CRC
matched, and 0 otherwise (R196). -/
def shownF7Fields (c : Config) (nets : Nets) : F7Fields :=
  match nets.packF7, nets.headerF7, nets.crc8F7 with
  | some f, some true, some crc => if crcMatches crc f then extractF7 c f else .zero
  | _, _, _ => .zero

/-- EXTRACT_RG (R180), evaluated on what PACK_RG and CHECKSUM_RG show. -/
def execExtractRg (s : State) : Outcome :=
  onItsOwn s <| .next (s.showNets { s.nets with extractRg := shownRgFields s.cfg s.nets })

/-- EXTRACT_F7 (R187), evaluated on what PACK_F7, HEADER_F7 and CRC8_F7 show. -/
def execExtractF7 (s : State) : Outcome :=
  onItsOwn s <| .next (s.showNets { s.nets with extractF7 := shownF7Fields s.cfg s.nets })

end Sys2Proof.Machine
end

