-- ==== Sys2Proof/Machine/Classifier.lean ====
section
/-! DEFINITION. The pulse classifier (40_classifier.md): CLASSIFY_RG and CLASSIFY_F7. -/

namespace Sys2Proof.Machine

/-- `cls_RG(d)` of R101. -/
def clsRg (c : Config) (d : Nat) : PulseClass :=
  if inWindow d c.rgShortMin c.rgShortMax then .shortBit
  else if inWindow d c.rgLongMin c.rgLongMax then .longBit
  else if inWindow d c.rgSyncMin c.rgSyncMax then .syncMarker
  else .invalid

/-- `cls_F7(d)` of R102. -/
def clsF7 (c : Config) (d : Nat) : PulseClass :=
  if inWindow d c.f7ShortMin c.f7ShortMax then .shortBit
  else if inWindow d c.f7LongMin c.f7LongMax then .longBit
  else .invalid

/-- The 2-bit code of a class (30_encoding.md R73). -/
def classCode : PulseClass → BitVec 2
  | .invalid => 0b00#2
  | .shortBit => 0b01#2
  | .longBit => 0b10#2
  | .syncMarker => 0b11#2

/-- `bitval` of 30_encoding.md R74: Invalid and SyncMarker give no bit. -/
def bitval : PulseClass → Option Bool
  | .shortBit => some true
  | .longBit => some false
  | .invalid => none
  | .syncMarker => none

/-- CLASSIFY_RG (R101), evaluated on the token's duration. -/
def execClassifyRg (s : State) : Outcome :=
  onItsOwn s <| withToken s fun d => .next (s.showNets { s.nets with clsRg := clsRg s.cfg d })

/-- CLASSIFY_F7 (R102), evaluated on the token's duration. -/
def execClassifyF7 (s : State) : Outcome :=
  onItsOwn s <| withToken s fun d => .next (s.showNets { s.nets with clsF7 := clsF7 s.cfg d })

end Sys2Proof.Machine
end

