-- ==== Sys2Proof/Machine/FrameDecoder.lean ====
section
/-! DEFINITION. The frame decoders (42_frame_decoder.md): CAPTURE_RG, CAPTURE_F7, PACK_RG, PACK_F7. -/

namespace Sys2Proof.Machine

/-- CAPTURE_RG (R140): no duration is refused at capture (R141). -/
def execCaptureRg (s : State) : Outcome :=
  clockEdge .captureRg s <| withToken s fun d => .next (s.capture d).clearResult

/-- CAPTURE_F7 (R142). -/
def execCaptureF7 (s : State) : Outcome :=
  clockEdge .captureF7 s <| withToken s fun d => .next (s.capture d).clearResult

/-- The bits of a sequence of durations under a classifier; `none` if any duration gives no bit
(R143, R145, R147). -/
def classBits (cls : Nat → PulseClass) : List Nat → Option (List Bool)
  | [] => some []
  | d :: ds =>
    match bitval (cls d), classBits cls ds with
    | some b, some bs => some (b :: bs)
    | _, _ => none

/-- PACK_RG (R144): 64 durations to the 64 frame bits, byte[0] in bits 63..56; `none` is
`Reject(Pulse)` (R145). -/
def packRg (c : Config) (ds : List Nat) : Option (BitVec 64) :=
  (classBits (clsRg c) ds).map fun bits => BitVec.ofNat 64 (bitsValue bits)

/-- PACK_F7 (R146): 39 durations to the 40 frame bits, the implicit 0 first; `none` is
`Reject(Pulse)` (R147). -/
def packF7 (c : Config) (ds : List Nat) : Option (BitVec 40) :=
  (classBits (clsF7 c) ds).map fun bits => BitVec.ofNat 40 (bitsValue (false :: bits))

/-- PACK_RG shows a new answer. The checks and fields shown of the frame before it are dropped: no check
of one frame stands for another (44_field_extractor.md R196; log 10). -/
def Nets.showPackRg (answer : Option (BitVec 64)) (nets : Nets) : Nets :=
  { nets with packRg := answer, checksumRg := none, extractRg := .zero }

/-- PACK_F7 shows a new answer, and what was shown of the frame before it is dropped
(44_field_extractor.md R196; log 10). -/
def Nets.showPackF7 (answer : Option (BitVec 40)) (nets : Nets) : Nets :=
  { nets with packF7 := answer, headerF7 := none, crc8F7 := none, extractF7 := .zero }

/-- PACK_RG (R144), evaluated on `raw[0..62]` and the token (R143). -/
def execPackRg (s : State) : Outcome :=
  onItsOwn s <| withFrame s 63 fun ds =>
    .next (s.showNets (s.nets.showPackRg (packRg s.cfg ds)))

/-- PACK_F7 (R146), evaluated on `raw[0..37]` and the token (R143). -/
def execPackF7 (s : State) : Outcome :=
  onItsOwn s <| withFrame s 38 fun ds =>
    .next (s.showNets (s.nets.showPackF7 (packF7 s.cfg ds)))

end Sys2Proof.Machine
end

