-- ==== Sys2Proof/Machine/Cycle.lean ====
section
/-! DEFINITION. The decode-cycle sequencer (45_cycle.md) and reset (70_reset_and_hazards.md): HOLD,
CYCLE_START, FINISH_RG, FINISH_F7, RESET. -/

namespace Sys2Proof.Machine

/-- HOLD (R201). -/
def execHold (s : State) : Outcome := clockEdge .hold s <| .next s.clearResult

/-- CYCLE_START (R203), as a sub-step on its own. -/
def execCycleStart (s : State) : Outcome := onItsOwn s <| .next s.startCycle

/-- RESET (70_reset_and_hazards.md R250). -/
def execReset (s : State) : Outcome := clockEdge .reset s <| .next s.resetRegisters

/-- The outcome of a packed RainGauge frame: checksum, then acceptance (R205, 60_exceptions.md R228). -/
def judgeRg (c : Config) (bytes : BitVec 64) : Token :=
  if checksumRg bytes then .acceptRg (extractRg c bytes) else .reject .checksum .rainGauge

/-- The outcome of a packed F007TP frame: header, then CRC, then acceptance (R206, R228). -/
def judgeF7 (c : Config) (f : BitVec 40) : Token :=
  if headerF7 c f then
    if crcMatches (crc8F7 c f) f then .acceptF7 (extractF7 c f) else .reject .crc .f007tp
  else .reject .header .f007tp

/-- The outcome of 64 captured durations: the pulse rejection comes first (R205, R228). -/
def finishRgToken (c : Config) (ds : List Nat) : Token :=
  match packRg c ds with
  | none => .reject .pulse .rainGauge
  | some bytes => judgeRg c bytes

/-- The outcome of 39 captured durations: the pulse rejection comes first (R206, R228). -/
def finishF7Token (c : Config) (ds : List Nat) : Token :=
  match packF7 c ds with
  | none => .reject .pulse .f007tp
  | some f => judgeF7 c f

/-- FINISH_RG (R205): `raw[63] <- d`, the outcome of the frame, CYCLE_START. -/
def execFinishRg (s : State) : Outcome :=
  clockEdge .finishRg s <| withFrame s 63 fun ds =>
    .next ((s.writeRaw s.port.inDur).endCycle (finishRgToken s.cfg ds))

/-- FINISH_F7 (R206): `raw[38] <- d`, the outcome of the frame, CYCLE_START. -/
def execFinishF7 (s : State) : Outcome :=
  clockEdge .finishF7 s <| withFrame s 38 fun ds =>
    .next ((s.writeRaw s.port.inDur).endCycle (finishF7Token s.cfg ds))

end Sys2Proof.Machine
end

