-- ==== Sys2Proof/Machine/Detector.lean ====
section
/-! DEFINITION. The protocol detector (41_detector.md): DETECT_STEP. -/

namespace Sys2Proof.Machine

/-- The short-run counter after a pulse of class c: cases S (R127) and Z (R126). -/
def nextRun (c : PulseClass) (cnt cntMax : Nat) : Nat :=
  if c = .shortBit then min (cnt + 1) cntMax else 0

/-- One search step on the duration d (R121): the cases Y, P, T and S/Z, in their order. -/
def detect (s : State) (d : Nat) : State :=
  if clsRg s.cfg d = .syncMarker then (s.enterCapture phaseCapRg).clearResult
  else if clsF7 s.cfg d = .longBit ∧ s.cfg.preambleRun < s.cnt.toNat then
    (s.enterCapture phaseCapF7).clearResult
  else if s.att + 1 = s.cfg.maxAttempts then s.endCycle .timeout
  else (s.countAttempt (nextRun (clsF7 s.cfg d) s.cnt.toNat s.cfg.cntMax)).clearResult

/-- DETECT_STEP (R121). -/
def execDetectStep (s : State) : Outcome :=
  clockEdge .detectStep s <| withToken s fun d => .next (detect s d)

end Sys2Proof.Machine
end

