-- ==== Sys2Proof/Machine/Dispatch.lean ====
section
/-! DEFINITION. One operation: its meaning, arm by arm. -/

namespace Sys2Proof.Machine

def exec (i : Instr) (s : State) : Host.Outcome State Fault Refusal :=
  match i with
  | .hold => Sys2Proof.Machine.execHold s
  | .classifyRg => Sys2Proof.Machine.execClassifyRg s
  | .classifyF7 => Sys2Proof.Machine.execClassifyF7 s
  | .detectStep => Sys2Proof.Machine.execDetectStep s
  | .captureRg => Sys2Proof.Machine.execCaptureRg s
  | .captureF7 => Sys2Proof.Machine.execCaptureF7 s
  | .packRg => Sys2Proof.Machine.execPackRg s
  | .packF7 => Sys2Proof.Machine.execPackF7 s
  | .checksumRg => Sys2Proof.Machine.execChecksumRg s
  | .headerF7 => Sys2Proof.Machine.execHeaderF7 s
  | .crc8F7 => Sys2Proof.Machine.execCrc8F7 s
  | .extractRg => Sys2Proof.Machine.execExtractRg s
  | .extractF7 => Sys2Proof.Machine.execExtractF7 s
  | .finishRg => Sys2Proof.Machine.execFinishRg s
  | .finishF7 => Sys2Proof.Machine.execFinishF7 s
  | .cycleStart => Sys2Proof.Machine.execCycleStart s
  | .reset => Sys2Proof.Machine.execReset s

end Sys2Proof.Machine
end

