-- ==== Sys2Proof/Machine/Present.lean ====
section
/-! DEFINITION. How an operation is put where the next step takes it (log entry 15). The core fetches
nothing (20_memory.md R51): a clock edge selects its operation from the input port and the registers
(30_encoding.md R82). So a step operation is presented by arranging the port, and the phase, that
select it; a combinational one by a request for its id (log entry 9). -/

namespace Sys2Proof.Machine

/-- The marks of a buffer whose entries below n count as written: how it stands when n pulses of a
frame have been captured (10_state.md R26). -/
def writtenBelow (n : Nat) : Vector Bool 64 :=
  ⟨⟨(List.range 64).map fun i => decide (i < n)⟩, by simp⟩

/-- A token stands on the port, in a phase with n pulses captured: the registers that 10_state.md R33
ties to the phase are set with it, and the buffer's contents and the duration are left as they are. -/
def State.presentToken (phase : BitVec 3) (n : Nat) (s : State) : State :=
  { s with phase := phase, idx := BitVec.ofNat 6 n, cnt := 0#3, att := 0, written := writtenBelow n,
           port := ⟨false, true, s.port.inDur⟩, request := none }

/-- The operation is asked for by its id, to be evaluated on its own. -/
def State.presentRequest (i : Instr) (s : State) : State :=
  { s with request := some ((opId i).setWidth 8) }

/-- Everything the next step needs to run the operation i: for a step operation the edge that selects
it (R82); for a combinational one the request, and for a packer the captured entries it reads. -/
def State.present (i : Instr) (s : State) : State :=
  match i with
  | .hold => { s with port := ⟨false, false, s.port.inDur⟩, request := none }
  | .reset => { s with port := ⟨true, s.port.inValid, s.port.inDur⟩, request := none }
  | .detectStep => s.presentToken phaseSearch 0
  | .captureRg => s.presentToken phaseCapRg 0
  | .captureF7 => s.presentToken phaseCapF7 0
  | .finishRg => s.presentToken phaseCapRg 63
  | .finishF7 => s.presentToken phaseCapF7 38
  | .packRg => (s.presentToken phaseCapRg 63).presentRequest .packRg
  | .packF7 => (s.presentToken phaseCapF7 38).presentRequest .packF7
  | .classifyRg => s.presentRequest .classifyRg
  | .classifyF7 => s.presentRequest .classifyF7
  | .checksumRg => s.presentRequest .checksumRg
  | .headerF7 => s.presentRequest .headerF7
  | .crc8F7 => s.presentRequest .crc8F7
  | .extractRg => s.presentRequest .extractRg
  | .extractF7 => s.presentRequest .extractF7
  | .cycleStart => s.presentRequest .cycleStart

/-- A word that is no operation is asked for as it stands, so that the next step refuses it. -/
def State.presentWord (nbits w : Nat) (s : State) : State :=
  match decodeTableWord nbits w with
  | some i => s.present i
  | none => { s with request := some ((bytesOfWord ((nbits + 7) / 8) w).headD 0xFF#8) }

end Sys2Proof.Machine
end

