-- ==== Sys2Proof/Machine/Step.lean ====
section
/-! DEFINITION. The step of the core (45_cycle.md R200): the fetch, and the operation. -/

namespace Sys2Proof.Machine

/-- One step: the operation the clock edge selects (R82, R200), or the one asked for (log entry 9). A
configuration that is refused is refused before any other stop (R8). -/
def step (s : State) : Host.Outcome State Fault Refusal :=
  match fetch s with
  | .op i => exec i s
  | .fault f => withConfig s (.fault f)
  | .refused r => withConfig s (.refused r)

/-- The state whose next step runs the operation with the bits w. -/
def State.withFetchWord (s : State) (nbits w : Nat) : State := s.presentWord nbits w

end Sys2Proof.Machine
end

