-- ==== Sys2Proof/Machine/Forms.lean ====
section
/-! DEFINITION. The other hardware forms the spec calls equivalent to its operations: the comparator
bank and the lookup table (40_classifier.md R105), the Mealy table (41_detector.md R132), the serial
packer (42_frame_decoder.md R148) and the bytewise CRC (43_integrity.md R165). The machine does not use
them; statements say that they agree with what it uses. -/

namespace Sys2Proof.Machine

/-! The comparator bank of R105. -/

/-- One window's two magnitude comparators, ANDed. -/
def windowLane (d min max : Nat) : Bool := decide (d > min) && decide (d < max)

/-- The window outputs of a RainGauge copy: short, long, sync. -/
def rgLanes (c : Config) (d : Nat) : List Bool :=
  [windowLane d c.rgShortMin c.rgShortMax, windowLane d c.rgLongMin c.rgLongMax,
   windowLane d c.rgSyncMin c.rgSyncMax]

/-- The window outputs of an F007TP copy: short, long. -/
def f7Lanes (c : Config) (d : Nat) : List Bool :=
  [windowLane d c.f7ShortMin c.f7ShortMax, windowLane d c.f7LongMin c.f7LongMax]

/-- The priority encoder of R105: the code of the first raised lane, lane k having code k + 1, and 0
for none (30_encoding.md R73). -/
def laneCode (lanes : List Bool) : BitVec 2 :=
  if lanes.getD 0 false then 0b01#2
  else if lanes.getD 1 false then 0b10#2
  else if lanes.getD 2 false then 0b11#2
  else 0b00#2

/-- The lookup table of R105, with `2^DUR_W` entries. -/
def rgTable (c : Config) : List PulseClass := (List.range (2 ^ c.durW)).map (clsRg c)

/-- The lookup table of R105, with `2^DUR_W` entries. -/
def f7Table (c : Config) : List PulseClass := (List.range (2 ^ c.durW)).map (clsF7 c)

/-! The Mealy table of R132. -/

/-- One row of the table: the next phase, counters and output. -/
structure MealyRow where
  phase : BitVec 3
  cnt : Nat
  att : Nat
  output : Option Token
  deriving DecidableEq, Repr

/-- The row of R132 for the classes (r, cls) in the detector state (cnt, att): the first that matches. -/
def mealyRow (c : Config) (r cls : PulseClass) (cnt att : Nat) : MealyRow :=
  if r = .syncMarker then ⟨phaseCapRg, 0, 0, none⟩
  else if cls = .longBit ∧ cnt > c.preambleRun then ⟨phaseCapF7, 0, 0, none⟩
  else if cls = .shortBit ∧ att + 1 < c.maxAttempts then
    ⟨phaseSearch, min (cnt + 1) c.cntMax, att + 1, none⟩
  else if cls ≠ .shortBit ∧ att + 1 < c.maxAttempts then ⟨phaseSearch, 0, att + 1, none⟩
  else ⟨phaseSearch, 0, 0, some .timeout⟩

/-! The serial packer of R148. -/

/-- The serial packer's registers: the shift register and the sticky "invalid seen" bit. -/
structure Serial (n : Nat) where
  shift : BitVec n
  bad : Bool
  deriving DecidableEq, Repr

/-- One captured duration: `S <- (S << 1) | bit`, or the sticky bit raised. -/
def serialStep {n : Nat} (cls : Nat → PulseClass) (r : Serial n) (d : Nat) : Serial n :=
  match bitval (cls d) with
  | some b => ⟨(r.shift <<< 1) ||| BitVec.ofNat n b.toNat, r.bad⟩
  | none => ⟨r.shift <<< 1, true⟩

/-- The serial packer over a whole frame, its register starting at 0. -/
def serialPack {n : Nat} (cls : Nat → PulseClass) (ds : List Nat) : Option (BitVec n) :=
  let r := ds.foldl (serialStep cls) (⟨0, false⟩ : Serial n)
  if r.bad then none else some r.shift

/-! The bytewise CRC of R165. -/

/-- One of the eight shift steps after a byte was XORed in. -/
def crcShift (poly crc : Byte) : Byte :=
  if crc.getLsbD 7 then (crc <<< 1) ^^^ poly else crc <<< 1

/-- One byte: XORed in, then eight shift steps. -/
def crcByteStep (poly crc b : Byte) : Byte :=
  (List.range 8).foldl (fun r _ => crcShift poly r) (crc ^^^ b)

/-- The CRC over bytes. -/
def crcBytewise (c : Config) (bs : List Byte) : Byte :=
  bs.foldl (crcByteStep (BitVec.ofNat 8 c.crcPoly)) (BitVec.ofNat 8 c.crcInit)

end Sys2Proof.Machine
end

