-- ==== Sys2Proof/Machine/Stimulus.lean ====
section
/-! DEFINITION. The spec's notation for input streams (30_encoding.md R86, R87): token names and the
macros RGBYTES, RGFRAME, F7BITS and F7FRAME, as functions that build the list of durations. -/

namespace Sys2Proof.Machine

/-- A valid input token on the port. -/
def PortIn.token (d : Nat) : PortIn := ⟨false, true, d⟩

/-- A clock edge with `rst = 1` and no token. -/
def PortIn.resetEdge : PortIn := ⟨true, false, 0⟩

/-! The named durations of R86: the midpoints of the default windows. -/

/-- `rS`: RainGauge ShortBit. -/
def rS : Nat := 1000
/-- `rL`: RainGauge LongBit. -/
def rL : Nat := 2700
/-- `rY`: RainGauge SyncMarker. -/
def rY : Nat := 7500
/-- `fS`: F007TP ShortBit. -/
def fS : Nat := 475
/-- `fL`: F007TP LongBit. -/
def fL : Nat := 1475

/-- The bits of a byte, bit 7 first. -/
def byteBits (b : Byte) : List Bool := (List.range 8).map fun i => b.getMsbD i

/-- The n lowest bits of a number, the most significant first. -/
def numberBits (n v : Nat) : List Bool := (List.range n).map fun i => v.testBit (n - 1 - i)

/-- `RGBYTES(b0, …)`: for each byte, bit 7 down to bit 0, `rS` for 1 and `rL` for 0 (R87). -/
def rgBytes (bs : List Byte) : List Nat :=
  (bs.flatMap byteBits).map fun b => if b then rS else rL

/-- The checksum byte of a payload (R87): the sum of its bytes mod 256. -/
def payloadChecksum (bs : List Byte) : Byte := BitVec.ofNat 8 (bs.map BitVec.toNat).sum

/-- `RGFRAME(b0, …, b6)`: the sync pulse, the payload and its checksum (R87). -/
def rgFrame (payload : List Byte) : List Nat :=
  rY :: rgBytes (payload ++ [payloadChecksum payload])

/-- `F7BITS(s)`: `fS` for each 1 and `fL` for each 0 (R87). -/
def f7Bits (s : List Bool) : List Nat := s.map fun b => if b then fS else fL

/-- `f[0..31]` of `F7FRAME(n, id3, sign, mag, hum)` (R87). -/
def f7Message (id3 : Nat) (sign : Bool) (mag hum : Nat) : List Bool :=
  [false, true, false, false] ++ [false] ++ numberBits 3 id3 ++ numberBits 4 0 ++ [sign]
    ++ numberBits 11 mag ++ numberBits 8 hum

/-- `F7FRAME(n, id3, sign, mag, hum)`: n short pulses, the long pulse that is `f[0]`, and `f[1..39]`,
the last eight the CRC-8 of `f[0..31]` (R87). -/
def f7Frame (n id3 : Nat) (sign : Bool) (mag hum : Nat) : List Nat :=
  let message := f7Message id3 sign mag hum
  List.replicate n fS ++ [fL]
    ++ f7Bits (message.tail ++ byteBits (crcBits Config.default message))

end Sys2Proof.Machine
end

