-- ==== Sys2Proof/Safety.lean ====
section
/-! DEFINITION. What counts as a legal state and a safe run, in the terms the statements use: the
spec's own registers as one record, the invariant R33 of 10_state.md with what 10_state.md R26 and
30_encoding.md R75, R78 and R80 add to it, and what an observer of the output port sees. -/

namespace Sys2Proof.Machine

/-- The storage elements of 10_state.md, apart from inputs, configuration and the model's own fields. -/
structure Arch where
  phase : BitVec 3
  cnt : BitVec 3
  att : Nat
  idx : BitVec 6
  raw : Vector Nat 64
  written : Vector Bool 64
  res : ResultRegs
  deriving DecidableEq, Repr

/-- The spec's own storage elements of a state. -/
def State.arch (s : State) : Arch := ⟨s.phase, s.cnt, s.att, s.idx, s.raw, s.written, s.res⟩

/-- Every entry counts as unwritten: how R203 and R250 leave the buffer. -/
def nothingWritten : Vector Bool 64 := Vector.replicate 64 false

/-- The configuration is the one the core was built with (70_reset_and_hazards.md R258), and is
well-formed (00_scope.md R8). -/
abbrev ConfigFixed (s : State) : Prop := s.cfg = s.built ∧ s.cfg.wellFormed = true

/-- The invariant of 10_state.md R33. -/
abbrev RegistersInRange (s : State) : Prop :=
  (s.phase = phaseSearch ∧ s.idx = 0#6 ∧ s.cnt.toNat ≤ s.cfg.cntMax ∧ s.att < s.cfg.maxAttempts)
    ∨ (s.phase = phaseCapRg ∧ s.idx.toNat ≤ 63 ∧ s.cnt = 0#3 ∧ s.att = 0)
    ∨ (s.phase = phaseCapF7 ∧ s.idx.toNat ≤ 38 ∧ s.cnt = 0#3 ∧ s.att = 0)

/-- The entries that count as written are those below `idx` (10_state.md R25, R26). -/
abbrev MarksFollowIndex (s : State) : Prop :=
  ∀ i : Fin 64, s.written[i] = decide (i.val < s.idx.toNat)

/-- The entries that count as written hold `DUR_W`-bit durations (10_state.md R26). -/
abbrev BufferFits (s : State) : Prop :=
  ∀ i : Fin 64, s.written[i] = true → s.raw[i] < 2 ^ s.cfg.durW

/-- The output registers hold a token of 30_encoding.md R80 with the codes of R75 and R78, or 0. -/
abbrev OutputLegal (r : ResultRegs) : Prop :=
  r = .zero
    ∨ (r.valid = true ∧
        ((r.status = 0b000#3 ∧ r.proto = 0b01#2 ∧ r.f7 = .zero)
          ∨ (r.status = 0b000#3 ∧ r.proto = 0b10#2 ∧ r.rg = .zero)
          ∨ (r.status = 0b001#3 ∧ r.proto = 0b00#2 ∧ r.rg = .zero ∧ r.f7 = .zero)
          ∨ (r.status = 0b010#3 ∧ (r.proto = 0b01#2 ∨ r.proto = 0b10#2) ∧ r.rg = .zero ∧ r.f7 = .zero)
          ∨ (r.status = 0b011#3 ∧ r.proto = 0b10#2 ∧ r.rg = .zero ∧ r.f7 = .zero)
          ∨ (r.status = 0b100#3 ∧ r.proto = 0b01#2 ∧ r.rg = .zero ∧ r.f7 = .zero)
          ∨ (r.status = 0b101#3 ∧ r.proto = 0b10#2 ∧ r.rg = .zero ∧ r.f7 = .zero)))

/-- The invariant every step keeps. -/
abbrev Inv (s : State) : Prop :=
  ConfigFixed s ∧ RegistersInRange s ∧ MarksFollowIndex s ∧ BufferFits s ∧ OutputLegal s.res

/-- Whatever is shown of a frame is shown of the one last packed, and fields only of one that passed
every check (44_field_extractor.md R196): each net holds nothing, or what its unit gives for that
frame. -/
abbrev NetsFollowFrame (s : State) : Prop :=
  (s.nets.checksumRg = none ∨ s.nets.checksumRg = s.nets.packRg.map checksumRg)
    ∧ (s.nets.extractRg = .zero
      ∨ s.nets.extractRg =
          ((s.nets.packRg.filter checksumRg).map (extractRg s.cfg)).getD .zero)
    ∧ (s.nets.headerF7 = none ∨ s.nets.headerF7 = s.nets.packF7.map (headerF7 s.cfg))
    ∧ (s.nets.crc8F7 = none
      ∨ (s.nets.headerF7 = some true ∧ s.nets.crc8F7 = s.nets.packF7.map (crc8F7 s.cfg)))
    ∧ (s.nets.extractF7 = .zero
      ∨ s.nets.extractF7 =
          ((s.nets.packF7.filter fun f =>
              headerF7 s.cfg f && crcMatches (crc8F7 s.cfg f) f).map (extractF7 s.cfg)).getD .zero)

/-- Every duration on the port, now and later, fits the port (30_encoding.md R71). -/
abbrev InputsFit (s : State) : Prop :=
  ∀ p ∈ s.port :: s.pending, p.inDur < 2 ^ s.cfg.durW

/-- A state of a run of the core: the invariant, an input the port can carry, and nothing asked for
besides the clock edges. -/
abbrev LegalRun (s : State) : Prop := Inv s ∧ InputsFit s ∧ s.request = none

/-- The start of a decode cycle (45_cycle.md R203). -/
abbrev AtCycleStart (s : State) : Prop :=
  s.phase = phaseSearch ∧ s.cnt = 0#3 ∧ s.att = 0 ∧ s.idx = 0#6 ∧ s.written = nothingWritten

/-- A clock edge with a valid token that fits the port, and no reset. -/
abbrev TokenEdge (s : State) : Prop :=
  s.port.rst = false ∧ s.port.inValid = true ∧ s.port.inDur < 2 ^ s.cfg.durW

/-- The input to come, from the coming edge on, is the tokens ds and then rest. -/
abbrev Feeds (s : State) (ds : List Nat) (rest : List PortIn) : Prop :=
  s.port :: s.pending = ds.map PortIn.token ++ rest

/-- The first n steps. -/
abbrev run (n : Nat) (s : State) : Outcome := Host.Core.run Sys2Proof.core n s

/-- No pulse of ds syncs a search whose short run stands at cnt: none is a RainGauge SyncMarker, and
none is an F007TP LongBit after a sufficient run (41_detector.md R124, R125). -/
def neverSyncs (c : Config) : Nat → List Nat → Bool
  | _, [] => true
  | cnt, d :: ds =>
    decide (clsRg c d ≠ .syncMarker) && !decide (clsF7 c d = .longBit ∧ c.preambleRun < cnt)
      && neverSyncs c (nextRun (clsF7 c d) cnt c.cntMax) ds

/-- Two states that differ at most in buffer entries that count as unwritten. -/
abbrev AgreeOnWritten (s t : State) : Prop :=
  t = { s with raw := t.raw } ∧ ∀ i : Fin 64, s.written[i] = true → s.raw[i] = t.raw[i]

/-- The observation of the next n edges (70_reset_and_hazards.md R260): the tokens emitted, in order. -/
def emitted : Nat → State → List ResultRegs
  | 0, _ => []
  | n + 1, s =>
    match step s with
    | .next t => (if t.res.valid then [t.res] else []) ++ emitted n t
    | _ => []

/-- The outcome of a frame as the units evaluated on their own show it: PACK_RG, CHECKSUM_RG and
EXTRACT_RG. -/
def rgNetsToken (nets : Nets) : Option Token :=
  match nets.packRg, nets.checksumRg with
  | none, none => some (.reject .pulse .rainGauge)
  | some _, some false => some (.reject .checksum .rainGauge)
  | some _, some true => some (.acceptRg nets.extractRg)
  | _, _ => none

/-- The outcome of a frame as the units evaluated on their own show it: PACK_F7, HEADER_F7, CRC8_F7 and
EXTRACT_F7. -/
def f7NetsToken (nets : Nets) : Option Token :=
  match nets.packF7, nets.headerF7, nets.crc8F7 with
  | none, none, none => some (.reject .pulse .f007tp)
  | some _, some false, none => some (.reject .header .f007tp)
  | some f, some true, some crc =>
    if crcMatches crc f then some (.acceptF7 nets.extractF7) else some (.reject .crc .f007tp)
  | _, _, _ => none

end Sys2Proof.Machine
end

