-- ==== Sys2Proof/Certificates/Slice0/Obligations.lean ====
section
/-! DEFINITION. The statements for the provers. A statement's docstring names the rule of spec/ it
formalises, and says where it rests on a choice of the model (a log entry in notes/assumptions). -/

open Sys2Proof Sys2Proof.Machine

/-! ## Operation ids, selection and the step -/

/-- 30_encoding.md R83: each operation id names its operation. The byte an id is written in is the
model's (log 16). -/
def Obligations.OperationIdsNameTheirOperations : Prop :=
  decode [0x00#8] = .ok .hold ∧ decode [0x01#8] = .ok .classifyRg ∧
  decode [0x02#8] = .ok .classifyF7 ∧ decode [0x03#8] = .ok .detectStep ∧
  decode [0x04#8] = .ok .captureRg ∧ decode [0x05#8] = .ok .captureF7 ∧
  decode [0x06#8] = .ok .packRg ∧ decode [0x07#8] = .ok .packF7 ∧
  decode [0x08#8] = .ok .checksumRg ∧ decode [0x09#8] = .ok .headerF7 ∧
  decode [0x0A#8] = .ok .crc8F7 ∧ decode [0x0B#8] = .ok .extractRg ∧
  decode [0x0C#8] = .ok .extractF7 ∧ decode [0x0D#8] = .ok .finishRg ∧
  decode [0x0E#8] = .ok .finishF7 ∧ decode [0x0F#8] = .ok .cycleStart ∧
  decode [0x10#8] = .ok .reset

/-- Decoding and encoding agree, in both directions (30_encoding.md R83; log 16). -/
def Obligations.DecodeAndEncodeAgree : Prop :=
  (∀ i : Instr, decode (encode i) = .ok i) ∧
  (∀ (b : Byte) (i : Instr), decode [b] = .ok i → encode i = [b])

/-- 30_encoding.md R84: ids 0x11 to 0x1F name no operation; a byte over 0x1F is no id (log 16); and a
step that is asked for either is refused. -/
def Obligations.UnassignedIdsAreRefused : Prop :=
  ∀ (s : State) (b : Byte), 0x11 ≤ b.toNat →
    ((b.toNat ≤ 0x1F → decode [b] = .error (.unassigned (b.setWidth 5))) ∧
     (0x1F < b.toNat → decode [b] = .error (.notAnOpId b)) ∧
     (ConfigFixed s → s.request = some b → step s = .refused .unassignedOpId))

/-- 30_encoding.md R82: which operation a clock edge performs, line by line. Lines 4 to 8 are for
registers in the range of 10_state.md R33. -/
def Obligations.EdgeSelectsOperationOfMap : Prop :=
  ∀ s : State,
    (s.port.rst = true → select s = .ok .reset) ∧
    (s.port.rst = false → s.port.inValid = false → select s = .ok .hold) ∧
    (s.port.rst = false → s.port.inValid = true →
      (3 ≤ s.phase.toNat → select s = .error .illegalPhase) ∧
      (s.phase = phaseSearch → RegistersInRange s → select s = .ok .detectStep) ∧
      (s.phase = phaseCapRg → s.idx.toNat < 63 → RegistersInRange s →
        select s = .ok .captureRg) ∧
      (s.phase = phaseCapRg → s.idx.toNat = 63 → RegistersInRange s →
        select s = .ok .finishRg) ∧
      (s.phase = phaseCapF7 → s.idx.toNat < 38 → RegistersInRange s →
        select s = .ok .captureF7) ∧
      (s.phase = phaseCapF7 → s.idx.toNat = 38 → RegistersInRange s →
        select s = .ok .finishF7) ∧
      (s.phase = phaseCapF7 → 38 < s.idx.toNat → select s = .error .indexOutOfRange))

/-- A step runs the operation its clock edge selects (45_cycle.md R200), and where one is asked for on
its own (log 9) it runs the operation the byte decodes to; a selection that faults is a fault. -/
def Obligations.StepRunsFetchedOperation : Prop :=
  ∀ s : State,
    (∀ i : Instr, s.request = none → select s = .ok i → step s = exec i s) ∧
    (∀ (b : Byte) (i : Instr), s.request = some b → decode [b] = .ok i → i.wellFormed = true →
      step s = exec i s) ∧
    (∀ f : Fault, ConfigFixed s → s.request = none → select s = .error f → step s = .fault f)

/-- The model's `withFetchWord` (log 15) puts each operation where the very next step runs it. -/
def Obligations.PresentedOperationRunsNext : Prop :=
  ∀ (s : State) (w : Nat) (i : Instr), decodeTableWord 8 w = some i →
    step (s.withFetchWord 8 w) = exec i (s.withFetchWord 8 w)

/-- 10_state.md R33 and 30_encoding.md R77: on an edge with a valid token, a state that breaks the
register invariant faults; with an illegal phase code, as an illegal phase. -/
def Obligations.BrokenRegistersFault : Prop :=
  ∀ s : State, ConfigFixed s → s.request = none → s.port.rst = false → s.port.inValid = true →
    ¬ RegistersInRange s →
      (∃ f : Fault, step s = .fault f) ∧
      (3 ≤ s.phase.toNat → step s = .fault .illegalPhase) ∧
      (s.phase = phaseCapF7 → 38 < s.idx.toNat → step s = .fault .indexOutOfRange)

/-! ## Configuration -/

/-- 00_scope.md R8: the model's check of a configuration is (a) to (l). Windows that are disjoint "as
open intervals" share no rational number (log 3). The default configuration passes. -/
def Obligations.ConfigurationCheckIsTheSpecs : Prop :=
  (∀ c : Config, c.wellFormed = true ↔
    ((c.rgShortMin < c.rgShortMax ∧ c.rgLongMin < c.rgLongMax ∧ c.rgSyncMin < c.rgSyncMax ∧
        c.f7ShortMin < c.f7ShortMax ∧ c.f7LongMin < c.f7LongMax) ∧
     (∀ m ∈ [c.rgShortMax, c.rgLongMax, c.rgSyncMax, c.f7ShortMax, c.f7LongMax],
        m ≤ 2 ^ c.durW - 1) ∧
     (∀ x : ℚ, ¬ ((c.rgShortMin < x ∧ x < c.rgShortMax) ∧ (c.rgLongMin < x ∧ x < c.rgLongMax)) ∧
        ¬ ((c.rgShortMin < x ∧ x < c.rgShortMax) ∧ (c.rgSyncMin < x ∧ x < c.rgSyncMax)) ∧
        ¬ ((c.rgLongMin < x ∧ x < c.rgLongMax) ∧ (c.rgSyncMin < x ∧ x < c.rgSyncMax)) ∧
        ¬ ((c.f7ShortMin < x ∧ x < c.f7ShortMax) ∧ (c.f7LongMin < x ∧ x < c.f7LongMax))) ∧
     (∀ w ∈ [(c.rgShortMin, c.rgShortMax), (c.rgLongMin, c.rgLongMax), (c.rgSyncMin, c.rgSyncMax),
          (c.f7ShortMin, c.f7ShortMax), (c.f7LongMin, c.f7LongMax)],
        ¬ (w.1 < c.sentinel ∧ c.sentinel < w.2)) ∧
     (1 ≤ c.maxAttempts ∧ c.maxAttempts ≤ 2 ^ c.attW - 1) ∧
     (c.preambleRun + 1 ≤ c.cntMax ∧ c.cntMax ≤ 2 ^ 3 - 1) ∧
     (1 ≤ c.rgRainDen ∧ 1 ≤ c.rgTempDiv) ∧
     (c.crcInit < 2 ^ 8 ∧ c.crcPoly < 2 ^ 8) ∧
     c.rgTempOffset + c.rgTempF0 ≤ 2 ^ 16 ∧
     ((2 ^ 16 - 1) + c.rgRainOffset) * c.rgRainNum / c.rgRainDen ≤ 2 ^ 17 - 1 ∧
     c.f7IdBias ≤ 8)) ∧
  Config.default.wellFormed = true

/-- 00_scope.md R8: a core whose configuration is not well-formed is not stepped, and no operation of
it is run. -/
def Obligations.IllFormedConfigurationIsRefused : Prop :=
  ∀ s : State, s.cfg = s.built → s.cfg.wellFormed = false →
    step s = .refused .configNotWellFormed ∧ ∀ i : Instr, exec i s = .refused .configNotWellFormed

/-- 10_state.md R29: no operation and no step changes the configuration, and a changed configuration is
refused (70_reset_and_hazards.md R258). -/
def Obligations.ConfigurationIsReadOnly : Prop :=
  (∀ (i : Instr) (s t : State), exec i s = .next t → t.cfg = s.cfg ∧ t.built = s.built) ∧
  (∀ s t : State, step s = .next t → t.cfg = s.cfg ∧ t.built = s.built) ∧
  (∀ s : State, s.cfg ≠ s.built →
    step s = .refused .configChanged ∧ ∀ i : Instr, exec i s = .refused .configChanged)

/-! ## Pulse classifier -/

/-- 40_classifier.md R101: the class of a duration under the RainGauge windows, open at both ends. Under
a well-formed configuration no duration is in two windows, and the sentinel is Invalid. -/
def Obligations.RainGaugeClassFollowsWindows : Prop :=
  ∀ (c : Config) (d : Nat), c.wellFormed = true →
    (clsRg c d = .shortBit ↔ c.rgShortMin < d ∧ d < c.rgShortMax) ∧
    (clsRg c d = .longBit ↔ c.rgLongMin < d ∧ d < c.rgLongMax) ∧
    (clsRg c d = .syncMarker ↔ c.rgSyncMin < d ∧ d < c.rgSyncMax) ∧
    (clsRg c d = .invalid ↔ ¬ (c.rgShortMin < d ∧ d < c.rgShortMax) ∧
      ¬ (c.rgLongMin < d ∧ d < c.rgLongMax) ∧ ¬ (c.rgSyncMin < d ∧ d < c.rgSyncMax)) ∧
    clsRg c c.sentinel = .invalid

/-- 40_classifier.md R102: the class of a duration under the F007TP windows. It is never SyncMarker, and
the sentinel is Invalid. -/
def Obligations.F007TPClassFollowsWindows : Prop :=
  ∀ (c : Config) (d : Nat), c.wellFormed = true →
    (clsF7 c d = .shortBit ↔ c.f7ShortMin < d ∧ d < c.f7ShortMax) ∧
    (clsF7 c d = .longBit ↔ c.f7LongMin < d ∧ d < c.f7LongMax) ∧
    (clsF7 c d = .invalid ↔ ¬ (c.f7ShortMin < d ∧ d < c.f7ShortMax) ∧
      ¬ (c.f7LongMin < d ∧ d < c.f7LongMax)) ∧
    clsF7 c d ≠ .syncMarker ∧ clsF7 c c.sentinel = .invalid

/-- CLASSIFY_RG and CLASSIFY_F7, evaluated on their own (log 9), show the class of the token's duration
and write nothing else (40_classifier.md R101, R102). -/
def Obligations.ClassifyShowsClassOfToken : Prop :=
  ∀ s : State, ConfigFixed s → s.port.inDur < 2 ^ s.cfg.durW →
    exec .classifyRg s =
      .next { s with request := none, nets := { s.nets with clsRg := clsRg s.cfg s.port.inDur } } ∧
    exec .classifyF7 s =
      .next { s with request := none, nets := { s.nets with clsF7 := clsF7 s.cfg s.port.inDur } }

/-- 40_classifier.md R105: under a well-formed configuration at most one comparator lane is raised, and
the encoder and the lookup table give the class (its code: 30_encoding.md R73). -/
def Obligations.ComparatorBankIsClassifier : Prop :=
  ∀ (c : Config) (d : Nat), c.wellFormed = true →
    (rgLanes c d).count true ≤ 1 ∧ (f7Lanes c d).count true ≤ 1 ∧
    laneCode (rgLanes c d) = classCode (clsRg c d) ∧
    laneCode (f7Lanes c d) = classCode (clsF7 c d) ∧
    (d < 2 ^ c.durW → (rgTable c)[d]? = some (clsRg c d) ∧ (f7Table c)[d]? = some (clsF7 c d))

/-! ## Protocol detector -/

/-- 41_detector.md R121: DETECT_STEP, its cases in their order; everything else is unchanged but the
outputs, which are cleared where no token is emitted (10_state.md R27). -/
def Obligations.DetectStepFollowsItsCases : Prop :=
  ∀ s : State, ConfigFixed s → TokenEdge s → s.phase = phaseSearch → RegistersInRange s →
    ∃ t, exec .detectStep s = .next t ∧ t.cfg = s.cfg ∧ t.built = s.built ∧
      t.arch =
        if clsRg s.cfg s.port.inDur = .syncMarker then
          { s.arch with phase := phaseCapRg, idx := 0#6, cnt := 0#3, att := 0, res := .zero }
        else if clsF7 s.cfg s.port.inDur = .longBit ∧ s.cnt.toNat > s.cfg.preambleRun then
          { s.arch with phase := phaseCapF7, idx := 0#6, cnt := 0#3, att := 0, res := .zero }
        else if s.att + 1 = s.cfg.maxAttempts then
          { s.arch with phase := phaseSearch, idx := 0#6, cnt := 0#3, att := 0,
                        written := nothingWritten, res := tokenRegs .timeout }
        else if clsF7 s.cfg s.port.inDur = .shortBit then
          { s.arch with cnt := BitVec.ofNat 3 (min (s.cnt.toNat + 1) s.cfg.cntMax),
                        att := s.att + 1, res := .zero }
        else { s.arch with cnt := 0#3, att := s.att + 1, res := .zero }

/-- 41_detector.md R132: the Mealy table gives the detector's next registers and output. -/
def Obligations.DetectorIsMealyTable : Prop :=
  ∀ s : State, ConfigFixed s → TokenEdge s → s.phase = phaseSearch → RegistersInRange s →
    let row := mealyRow s.cfg (clsRg s.cfg s.port.inDur) (clsF7 s.cfg s.port.inDur)
      s.cnt.toNat s.att
    ∃ t, exec .detectStep s = .next t ∧ t.phase = row.phase ∧ t.cnt.toNat = row.cnt ∧
      t.att = row.att ∧ t.idx = 0#6 ∧ t.raw = s.raw ∧
      t.res = match row.output with
        | none => .zero
        | some token => tokenRegs token

/-- 41_detector.md R124: a RainGauge SyncMarker syncs regardless of prior history, whatever the short
run and on whatever attempt, and also where the pulse is an F007TP long pulse too (R123, R129). -/
def Obligations.SyncMarkerSyncsRegardlessOfHistory : Prop :=
  ∀ s : State, LegalRun s → TokenEdge s → s.phase = phaseSearch →
    s.cfg.rgSyncMin < s.port.inDur → s.port.inDur < s.cfg.rgSyncMax →
    ∃ t, step s = .next t ∧ t.phase = phaseCapRg ∧ t.idx = 0#6 ∧ t.cnt = 0#3 ∧ t.att = 0 ∧
      t.res.valid = false

/-- 41_detector.md R125, R126, R127 over a whole preamble from the start of a cycle: a run of more than
`PREAMBLE_RUN` F007TP-short pulses and a long one syncs F007TP, however long the run (saturation does no
harm); after a shorter run the long pulse only clears the run. -/
def Obligations.PreambleSyncsAfterSufficientRun : Prop :=
  ∀ (s : State) (shorts : List Nat) (long : Nat) (rest : List PortIn),
    LegalRun s → AtCycleStart s → Feeds s (shorts ++ [long]) rest →
    (∀ d ∈ shorts, clsF7 s.cfg d = .shortBit ∧ clsRg s.cfg d ≠ .syncMarker) →
    clsF7 s.cfg long = .longBit → clsRg s.cfg long ≠ .syncMarker →
    shorts.length + 1 < s.cfg.maxAttempts →
    ∃ t, run (shorts.length + 1) s = .next t ∧ emitted (shorts.length + 1) s = [] ∧
      t.idx = 0#6 ∧ t.cnt = 0#3 ∧
      (s.cfg.preambleRun < shorts.length → t.phase = phaseCapF7 ∧ t.att = 0) ∧
      (shorts.length ≤ s.cfg.preambleRun → t.phase = phaseSearch ∧ t.att = shorts.length + 1)

/-- 41_detector.md R122, R128: a search none of whose pulses syncs consumes exactly `MAX_ATTEMPTS`
tokens, emits TIMEOUT on the last and nothing before, and leaves the core at the start of a cycle. -/
def Obligations.SearchTimesOutAfterMaxAttempts : Prop :=
  ∀ (s : State) (ds : List Nat) (rest : List PortIn),
    LegalRun s → AtCycleStart s → ds.length = s.cfg.maxAttempts → Feeds s ds rest →
    neverSyncs s.cfg 0 ds = true →
    ∃ t, run ds.length s = .next t ∧ AtCycleStart t ∧ t.res = tokenRegs .timeout ∧
      emitted ds.length s = [tokenRegs .timeout] ∧
      t.port = rest.headD .idle ∧ t.pending = rest.tail

/-! ## Frame decoders -/

/-- 42_frame_decoder.md R140 and R141: CAPTURE_RG stores whatever duration the token carries in
`raw[idx]` and counts it. -/
def Obligations.CaptureRgStoresAnyDuration : Prop :=
  ∀ s : State, ConfigFixed s → TokenEdge s → s.phase = phaseCapRg → s.idx.toNat < 63 →
    s.cnt = 0#3 → s.att = 0 →
    ∃ t, exec .captureRg s = .next t ∧ t.cfg = s.cfg ∧ t.built = s.built ∧
      t.idx.toNat = s.idx.toNat + 1 ∧
      t.arch = { s.arch with
        raw := s.raw.set s.idx.toNat s.port.inDur s.idx.isLt,
        written := s.written.set s.idx.toNat true s.idx.isLt,
        idx := s.idx + 1#6, res := .zero }

/-- 42_frame_decoder.md R142 and R141: CAPTURE_F7 stores whatever duration the token carries in
`raw[idx]` and counts it; entries 39 to 63 are not touched. -/
def Obligations.CaptureF7StoresAnyDuration : Prop :=
  ∀ s : State, ConfigFixed s → TokenEdge s → s.phase = phaseCapF7 → s.idx.toNat < 38 →
    s.cnt = 0#3 → s.att = 0 →
    ∃ t, exec .captureF7 s = .next t ∧ t.cfg = s.cfg ∧ t.built = s.built ∧
      t.idx.toNat = s.idx.toNat + 1 ∧
      (∀ i : Fin 64, 39 ≤ i.val → t.raw[i] = s.raw[i]) ∧
      t.arch = { s.arch with
        raw := s.raw.set s.idx.toNat s.port.inDur s.idx.isLt,
        written := s.written.set s.idx.toNat true s.idx.isLt,
        idx := s.idx + 1#6, res := .zero }

/-- 42_frame_decoder.md R144 and R145: 64 RainGauge durations pack to the bits their classes give, byte
j being `val(f, 8j, 8j+7)`; any Invalid or SyncMarker duration rejects the frame. -/
def Obligations.PackRgGivesClassBitsOrRejects : Prop :=
  ∀ (c : Config) (ds : List Nat), ds.length = 64 →
    ((∃ d ∈ ds, clsRg c d ≠ .shortBit ∧ clsRg c d ≠ .longBit) → packRg c ds = none) ∧
    ((∀ d ∈ ds, clsRg c d = .shortBit ∨ clsRg c d = .longBit) →
      ∃ w, packRg c ds = some w ∧
        (∀ i (h : i < ds.length), frameBit w i = decide (clsRg c ds[i] = .shortBit)) ∧
        ∀ j < 8, (frameByte w j).toNat = val w (8 * j) (8 * j + 7))

/-- 42_frame_decoder.md R146 and R147: 39 F007TP durations pack to the implicit 0 and the bits their
classes give; any Invalid duration rejects the frame. -/
def Obligations.PackF7GivesClassBitsOrRejects : Prop :=
  ∀ (c : Config) (ds : List Nat), ds.length = 39 →
    ((∃ d ∈ ds, clsF7 c d = .invalid) → packF7 c ds = none) ∧
    ((∀ d ∈ ds, clsF7 c d ≠ .invalid) →
      ∃ f, packF7 c ds = some f ∧ frameBit f 0 = false ∧
        ∀ i (h : i < ds.length), frameBit f (i + 1) = decide (clsF7 c ds[i] = .shortBit))

/-- PACK_RG and PACK_F7, evaluated on their own (log 9), show what the captured entries and the token
pack to, drop what the units after them showed of the frame before (44_field_extractor.md R196; log 10),
and write nothing else (42_frame_decoder.md R143, R144, R146). -/
def Obligations.PackShowsCapturedFrame : Prop :=
  ∀ s : State, ConfigFixed s → s.port.inDur < 2 ^ s.cfg.durW →
    ((∀ i : Fin 64, i.val < 63 → s.written[i] = true) →
      exec .packRg s = .next { s with
        request := none,
        nets := { s.nets with
          packRg := packRg s.cfg (s.raw.toList.take 63 ++ [s.port.inDur])
          checksumRg := none
          extractRg := .zero } }) ∧
    ((∀ i : Fin 64, i.val < 38 → s.written[i] = true) →
      exec .packF7 s = .next { s with
        request := none,
        nets := { s.nets with
          packF7 := packF7 s.cfg (s.raw.toList.take 38 ++ [s.port.inDur])
          headerF7 := none
          crc8F7 := none
          extractF7 := .zero } })

/-- 42_frame_decoder.md R148: the serial packer gives what the parallel bank gives. -/
def Obligations.SerialPackerIsParallelPacker : Prop :=
  ∀ (c : Config) (ds : List Nat),
    (ds.length = 64 → serialPack (clsRg c) ds = packRg c ds) ∧
    (ds.length = 39 → serialPack (clsF7 c) ds = packF7 c ds)

/-! ## Bit and byte order -/

/-- 00_scope.md R11: `val(f, a, b) = Σ_{i=a..b} f[i] · 2^(b−i)`, for any frame. -/
def Obligations.FrameSliceIsPositionalSum : Prop :=
  ∀ (n : Nat) (f : BitVec n) (a b : Nat), a ≤ b → b < n →
    val f a b = ∑ i ∈ Finset.Icc a b, (frameBit f i).toNat * 2 ^ (b - i)

/-- 20_memory.md R53: bytes are packed most-significant-bit first. -/
def Obligations.BytesPackMostSignificantBitFirst : Prop :=
  ∀ (w : BitVec 64) (k j : Nat), k < 8 → j < 8 →
    (frameByte w k).getLsbD (7 - j) = frameBit w (8 * k + j) ∧
    (frameByte w k).toNat = val w (8 * k) (8 * k + 7)

/-! ## Integrity validators -/

/-- 43_integrity.md R160: a packed frame passes exactly when the sum of bytes 0 to 6, mod 256, is
byte 7. -/
def Obligations.ChecksumIsSumOfBytes : Prop :=
  ∀ w : BitVec 64, checksumRg w = true ↔
    ((frameByte w 0).toNat + (frameByte w 1).toNat + (frameByte w 2).toNat + (frameByte w 3).toNat
      + (frameByte w 4).toNat + (frameByte w 5).toNat + (frameByte w 6).toNat) % 256
      = (frameByte w 7).toNat

/-- 43_integrity.md R161(c) and (d): any single-bit change of a frame that passes is detected, and the
two-bit change of (d) never is. -/
def Obligations.ChecksumDetectsSingleBitErrors : Prop :=
  ∀ w : BitVec 64, checksumRg w = true →
    (∀ j < 64, checksumRg (w ^^^ BitVec.twoPow 64 j) = false) ∧
    ((frameByte w 0).getLsbD 0 = false → (frameByte w 1).getLsbD 0 = true →
      checksumRg (w ^^^ BitVec.twoPow 64 56 ^^^ BitVec.twoPow 64 48) = true)

/-- 43_integrity.md R162: the header check compares `f[0..3]` with the fixed pattern, `0100` by default
(the parameter in the literal's place is log 20). -/
def Obligations.HeaderCheckComparesFixedPattern : Prop :=
  (∀ (c : Config) (f : BitVec 40), headerF7 c f = true ↔
    ∀ i < 4, frameBit f i = frameBit c.f7Header i) ∧
  (∀ f : BitVec 40, headerF7 Config.default f = true ↔
    frameBit f 0 = false ∧ frameBit f 1 = true ∧ frameBit f 2 = false ∧ frameBit f 3 = false)

/-- 43_integrity.md R163 and R164: the CRC-8 is the register that starts at `CRC_INIT` and takes in
`f[0]` to `f[31]`, most significant bit first; bit 7 of it is compared with `f[32]`, and so on down to
bit 0 with `f[39]`. -/
def Obligations.CrcFollowsItsRegister : Prop :=
  (∀ (c : Config) (f : BitVec 40) (r : Nat → Nat), c.wellFormed = true → r 0 = c.crcInit →
    (∀ i < 32, r (i + 1) =
      if (r i / 128 + (frameBit f i).toNat) % 2 = 1 then (2 * r i % 256) ^^^ c.crcPoly
      else 2 * r i % 256) →
    (crc8F7 c f).toNat = r 32) ∧
  (∀ (crc : Byte) (f : BitVec 40), crcMatches crc f = true ↔
    ∀ j < 8, crc.getLsbD (7 - j) = frameBit f (32 + j))

/-- 43_integrity.md R165: the bytewise form gives the CRC-8 of R163, under any configuration. -/
def Obligations.BytewiseCrcIsBitSerialCrc : Prop :=
  ∀ (c : Config) (f : BitVec 40),
    crcBytewise c [frameByte f 0, frameByte f 1, frameByte f 2, frameByte f 3] = crc8F7 c f

/-- 43_integrity.md R167, for any generator with more than one term: a frame that passes every check
and then has one of `f[1..39]` inverted is rejected, by the header in `f[1..3]` and by the CRC in the
others. -/
def Obligations.CrcDetectsSingleBitErrors : Prop :=
  ∀ (c : Config) (f : BitVec 40) (j : Nat),
    c.wellFormed = true → c.crcPoly ≠ 0 → headerF7 c f = true →
    crcMatches (crc8F7 c f) f = true → 1 ≤ j → j ≤ 39 →
    judgeF7 c (f ^^^ BitVec.twoPow 40 (39 - j)) =
      if j ≤ 3 then .reject .header .f007tp else .reject .crc .f007tp

/-- The validators and extractors, evaluated on their own (log 9), show what their units give for what
the units before them show (43_integrity.md R160, R162, R163; 44_field_extractor.md R180, R187), each
not computed where the spec says it is not (log 10), and write nothing else. -/
def Obligations.UnitsShowTheirAnswers : Prop :=
  ∀ s : State, ConfigFixed s →
    exec .checksumRg s = .next { s with
      request := none, nets := { s.nets with checksumRg := s.nets.packRg.map checksumRg } } ∧
    exec .headerF7 s = .next { s with
      request := none, nets := { s.nets with headerF7 := s.nets.packF7.map (headerF7 s.cfg) } } ∧
    exec .crc8F7 s = .next { s with
      request := none, nets := { s.nets with
        crc8F7 := if s.nets.headerF7 = some true then s.nets.packF7.map (crc8F7 s.cfg) else none } } ∧
    exec .extractRg s = .next { s with
      request := none, nets := { s.nets with
        extractRg := if s.nets.checksumRg = some true then
            (s.nets.packRg.map (extractRg s.cfg)).getD .zero else .zero } } ∧
    (∀ f crc, s.nets.packF7 = some f → s.nets.headerF7 = some true → s.nets.crc8F7 = some crc →
      exec .extractF7 s = .next { s with
        request := none, nets := { s.nets with
          extractF7 := if crc.toNat = val f 32 39 then extractF7 s.cfg f else .zero } }) ∧
    (s.nets.packF7 = none ∨ s.nets.headerF7 ≠ some true ∨ s.nets.crc8F7 = none →
      exec .extractF7 s = .next { s with
        request := none, nets := { s.nets with extractF7 := .zero } })

/-! ## Field extractors -/

/-- 44_field_extractor.md R180: the RainGauge fields are the exact integers of the pseudocode: under a
well-formed configuration nothing wraps. The ranges under the defaults are those of R182 and R183. -/
def Obligations.ExtractRgIsExact : Prop :=
  (∀ (c : Config) (w : BitVec 64), c.wellFormed = true →
    let b := fun k => (frameByte w k).toNat
    let r := extractRg c w
    r.bytes = w ∧
    r.id.toNat = b 0 * 256 + b 1 ∧
    r.rainRaw.toNat = b 3 + b 4 * 256 ∧
    r.rain.toNat = (b 3 + b 4 * 256 + c.rgRainOffset) * c.rgRainNum / c.rgRainDen ∧
    r.tempRaw.toNat = b 5 + b 6 * 256 ∧
    r.tempNum.toInt = ((b 5 + b 6 * 256 : Nat) : Int) - c.rgTempOffset - c.rgTempF0 ∧
    r.lowbat = (frameByte w 2).getLsbD 7 ∧
    r.reset = (frameByte w 2).getLsbD 6) ∧
  (∀ w : BitVec 64,
    10 ≤ (extractRg Config.default w).rain.toNat ∧
    (extractRg Config.default w).rain.toNat ≤ 70788 ∧
    -1220 ≤ (extractRg Config.default w).tempNum.toInt ∧
    (extractRg Config.default w).tempNum.toInt ≤ 64315)

/-- 44_field_extractor.md R187: the F007TP fields are the exact integers of the pseudocode: under a
well-formed configuration nothing wraps. -/
def Obligations.ExtractF7IsExact : Prop :=
  ∀ (c : Config) (f : BitVec 40), c.wellFormed = true →
    let r := extractF7 c f
    r.bits = f ∧
    r.id.toNat = val f 5 7 + c.f7IdBias ∧
    r.sign = frameBit f 12 ∧
    r.mag.toNat = val f 13 23 ∧
    r.int.toNat = val f 13 23 / 10 ∧
    r.frac.toNat = val f 13 23 % 10 ∧
    r.hum.toNat = val f 24 31

/-! ## Sequencer, outcomes and reset -/

/-- 45_cycle.md R201: HOLD clears the outputs and changes nothing else, whatever the registers hold. -/
def Obligations.HoldOnlyClearsOutputs : Prop :=
  ∀ s : State, ConfigFixed s → s.port.rst = false → s.port.inValid = false →
    ∃ t, exec .hold s = .next t ∧ t.cfg = s.cfg ∧ t.built = s.built ∧
      t.arch = { s.arch with res := .zero }

/-- 45_cycle.md R201 over any number of idle clocks: they are no attempts, and no token is emitted. -/
def Obligations.IdleClocksChangeNothing : Prop :=
  ∀ (n : Nat) (s : State), LegalRun s →
    (∀ p ∈ s.port :: s.pending, p.rst = false ∧ p.inValid = false) →
    ∃ t, run n s = .next t ∧ emitted n s = [] ∧
      t.arch = { s.arch with res := if n = 0 then s.res else .zero }

/-- 45_cycle.md R203: CYCLE_START, evaluated on its own (log 9): SEARCH, counters and index 0, and the
buffer left as it is but counted as unwritten. -/
def Obligations.CycleStartPreparesNextCycle : Prop :=
  ∀ s : State, ConfigFixed s →
    exec .cycleStart s = .next { s with
      request := none, phase := phaseSearch, cnt := 0#3, att := 0, idx := 0#6,
      written := nothingWritten }

/-- 45_cycle.md R205 with the priority of 60_exceptions.md R228: FINISH_RG rejects the pulse, then the
checksum, and otherwise accepts with the extracted fields; the cycle ends. -/
def Obligations.FinishRgEmitsFrameOutcome : Prop :=
  ∀ s : State, ConfigFixed s → TokenEdge s → s.phase = phaseCapRg → s.idx.toNat = 63 →
    s.cnt = 0#3 → s.att = 0 → (∀ i : Fin 64, i.val < 63 → s.written[i] = true) →
    let frame := s.raw.toList.take 63 ++ [s.port.inDur]
    ∃ t, exec .finishRg s = .next t ∧ t.cfg = s.cfg ∧ t.built = s.built ∧ AtCycleStart t ∧
      t.raw = s.raw.set 63 s.port.inDur ∧
      (packRg s.cfg frame = none → t.res = tokenRegs (.reject .pulse .rainGauge)) ∧
      (∀ w, packRg s.cfg frame = some w → checksumRg w = false →
        t.res = tokenRegs (.reject .checksum .rainGauge)) ∧
      (∀ w, packRg s.cfg frame = some w → checksumRg w = true →
        t.res = tokenRegs (.acceptRg (extractRg s.cfg w)))

/-- 45_cycle.md R206 with the priority of 60_exceptions.md R228: FINISH_F7 rejects the pulse, then the
header, then the CRC, and otherwise accepts with the extracted fields; the cycle ends. -/
def Obligations.FinishF7EmitsFrameOutcome : Prop :=
  ∀ s : State, ConfigFixed s → TokenEdge s → s.phase = phaseCapF7 → s.idx.toNat = 38 →
    s.cnt = 0#3 → s.att = 0 → (∀ i : Fin 64, i.val < 38 → s.written[i] = true) →
    let frame := s.raw.toList.take 38 ++ [s.port.inDur]
    ∃ t, exec .finishF7 s = .next t ∧ t.cfg = s.cfg ∧ t.built = s.built ∧ AtCycleStart t ∧
      t.raw = s.raw.set 38 s.port.inDur ∧
      (packF7 s.cfg frame = none → t.res = tokenRegs (.reject .pulse .f007tp)) ∧
      (∀ f, packF7 s.cfg frame = some f → headerF7 s.cfg f = false →
        t.res = tokenRegs (.reject .header .f007tp)) ∧
      (∀ f, packF7 s.cfg frame = some f → headerF7 s.cfg f = true →
        (crc8F7 s.cfg f).toNat ≠ val f 32 39 → t.res = tokenRegs (.reject .crc .f007tp)) ∧
      (∀ f, packF7 s.cfg frame = some f → headerF7 s.cfg f = true →
        (crc8F7 s.cfg f).toNat = val f 32 39 → t.res = tokenRegs (.acceptF7 (extractF7 s.cfg f)))

/-- The finish operations chain the units (45_cycle.md R205, R206): the units evaluated one after another
on their own (log 9) show the very outcome the finish operation then emits. -/
def Obligations.FinishIsChainOfUnits : Prop :=
  (∀ s : State, ConfigFixed s → TokenEdge s → s.phase = phaseCapRg → s.idx.toNat = 63 →
    s.cnt = 0#3 → s.att = 0 → (∀ i : Fin 64, i.val < 63 → s.written[i] = true) →
    ∃ s₁ s₂ s₃ t token, exec .packRg s = .next s₁ ∧ exec .checksumRg s₁ = .next s₂ ∧
      exec .extractRg s₂ = .next s₃ ∧ exec .finishRg s₃ = .next t ∧
      rgNetsToken s₃.nets = some token ∧ t.res = tokenRegs token) ∧
  (∀ s : State, ConfigFixed s → TokenEdge s → s.phase = phaseCapF7 → s.idx.toNat = 38 →
    s.cnt = 0#3 → s.att = 0 → (∀ i : Fin 64, i.val < 38 → s.written[i] = true) →
    ∃ s₁ s₂ s₃ s₄ t token, exec .packF7 s = .next s₁ ∧ exec .headerF7 s₁ = .next s₂ ∧
      exec .crc8F7 s₂ = .next s₃ ∧ exec .extractF7 s₃ = .next s₄ ∧ exec .finishF7 s₄ = .next t ∧
      f7NetsToken s₄.nets = some token ∧ t.res = tokenRegs token)

/-- 30_encoding.md R75, R78 and R80: how each result token is laid out in the result registers. -/
def Obligations.TokenLayoutIsTheSpecs : Prop :=
  tokenRegs .timeout = ⟨true, 0b001#3, 0b00#2, .zero, .zero⟩ ∧
  (∀ p, tokenRegs (.reject .pulse p) =
    ⟨true, 0b010#3, match p with | .rainGauge => 0b01#2 | .f007tp => 0b10#2, .zero, .zero⟩) ∧
  tokenRegs (.reject .header .f007tp) = ⟨true, 0b011#3, 0b10#2, .zero, .zero⟩ ∧
  tokenRegs (.reject .checksum .rainGauge) = ⟨true, 0b100#3, 0b01#2, .zero, .zero⟩ ∧
  tokenRegs (.reject .crc .f007tp) = ⟨true, 0b101#3, 0b10#2, .zero, .zero⟩ ∧
  (∀ r, tokenRegs (.acceptRg r) = ⟨true, 0b000#3, 0b01#2, r, .zero⟩) ∧
  (∀ r, tokenRegs (.acceptF7 r) = ⟨true, 0b000#3, 0b10#2, .zero, r⟩)

/-- 45_cycle.md R202: a step of a run emits a token exactly on the last attempt of a search without
sync and on the last pulse of a frame, and its cycle ends with it. -/
def Obligations.TokenIsEmittedExactlyAtCycleEnd : Prop :=
  ∀ s : State, LegalRun s → ∃ t, step s = .next t ∧
    (t.res.valid = true ↔
      s.port.rst = false ∧ s.port.inValid = true ∧
        ((s.phase = phaseSearch ∧ s.att + 1 = s.cfg.maxAttempts ∧
            neverSyncs s.cfg s.cnt.toNat [s.port.inDur] = true) ∨
          (s.phase = phaseCapRg ∧ s.idx.toNat = 63) ∨
          (s.phase = phaseCapF7 ∧ s.idx.toNat = 38))) ∧
    (t.res.valid = true → AtCycleStart t)

/-- 70_reset_and_hazards.md R250: RESET on every edge with `rst = 1`, whatever `in_valid` is and whatever
the registers hold. -/
def Obligations.ResetClearsEverything : Prop :=
  ∀ s : State, ConfigFixed s → s.port.rst = true →
    ∃ t, exec .reset s = .next t ∧ t.cfg = s.cfg ∧ t.built = s.built ∧
      t.arch = ⟨phaseSearch, 0#3, 0, 0#6, s.raw, nothingWritten, .zero⟩

/-- 70_reset_and_hazards.md R251, R253: a reset edge abandons whatever stood, also a state that breaks
the register invariant, and a second reset edge changes nothing. -/
def Obligations.ResetRecoversAndIsIdempotent : Prop :=
  ∀ s : State, ConfigFixed s → s.request = none → s.port.rst = true →
    ∃ t, step s = .next t ∧ Inv t ∧ AtCycleStart t ∧ t.res.valid = false ∧
      (t.port.rst = true → ∃ u, step t = .next u ∧ u.arch = t.arch)

/-- 70_reset_and_hazards.md R252: the reset values of every piece of state the spec gives one. -/
def Obligations.ResetValuesAreTheSpecs : Prop :=
  State.reset.phase = 0b000#3 ∧ State.reset.cnt = 0#3 ∧ State.reset.att = 0 ∧
  State.reset.idx = 0#6 ∧ (∀ i : Fin 64, State.reset.written[i] = false) ∧
  State.reset.res = ⟨false, 0#3, 0#2, ⟨0, 0, 0, 0, 0, 0, false, false⟩, ⟨0, 0, false, 0, 0, 0, 0⟩⟩

/-- 70_reset_and_hazards.md R252, R254: the machine after reset, with any input the port can carry still
to come, is a state of a run: it meets the invariant; and its nets show nothing of an unchecked frame
(44_field_extractor.md R196; log 14). -/
def Obligations.ResetMeetsInvariant : Prop :=
  Inv State.reset ∧ NetsFollowFrame State.reset ∧
  ∀ ps : List PortIn, (∀ p ∈ ps, p.inDur < 2 ^ 16) → LegalRun { State.reset with pending := ps }

/-! ## The whole machine -/

/-- 10_state.md R33 with R26 and 30_encoding.md R80: every step keeps the invariant, from every state that
meets it, operations evaluated on their own included. And every step keeps 44_field_extractor.md R196 in
what the units show on their own (log 9, log 10): no fields of a frame that did not pass every check. -/
def Obligations.EveryStepKeepsInvariant : Prop :=
  (∀ s t : State, Inv s → step s = .next t → Inv t) ∧
  (∀ s t : State, NetsFollowFrame s → step s = .next t → NetsFollowFrame t)

/-- 60_exceptions.md R234: no fault and no refusal is reached in a run: from every state that meets the
invariant, with input the port can carry, every number of steps answers a next state. -/
def Obligations.RunsNeverStop : Prop :=
  ∀ (n : Nat) (s : State), LegalRun s → ∃ t, run n s = .next t ∧ LegalRun t

/-- A clock edge consumes the inputs of one edge, and neither reads nor writes the nets (20_memory.md R58,
R59; the input queue and the nets are the model's, log 7 and log 9). -/
def Obligations.StepOperationsConsumeOneEdge : Prop :=
  ∀ (i : Instr) (s t : State), isStepOp i = true → exec i s = .next t →
    t.port = s.pending.headD .idle ∧ t.pending = s.pending.tail ∧ t.nets = s.nets ∧
      t.request = none

/-- The combinational units write no register and consume no token ("State written: none",
40_classifier.md R101, R102; 10_state.md R30; log 9). -/
def Obligations.CombinationalUnitsWriteNoRegister : Prop :=
  ∀ (i : Instr) (s t : State),
    i ∈ [.classifyRg, .classifyF7, .packRg, .packF7, .checksumRg, .headerF7, .crc8F7, .extractRg,
      .extractF7] →
    exec i s = .next t →
    t.arch = s.arch ∧ t.port = s.port ∧ t.pending = s.pending ∧ t.cfg = s.cfg ∧ t.built = s.built

/-- 10_state.md R27: no operation of the core reads the result registers: two states that differ only in
them and in the nets (log 9) step to the same registers, outputs included. -/
def Obligations.StepsDoNotReadOutputs : Prop :=
  ∀ (s t s' : State), s.request = none → t = { s with res := t.res, nets := t.nets } →
    step s = .next s' → step t = .next { s' with nets := t.nets }

/-- 10_state.md R26 and R32: what unwritten buffer entries hold, entries of an earlier cycle among them,
has no effect: no step and no run shows it at the outputs. -/
def Obligations.UnwrittenEntriesHaveNoEffect : Prop :=
  ∀ s t : State, AgreeOnWritten s t →
    (∀ s', step s = .next s' → ∃ t', step t = .next t' ∧ AgreeOnWritten s' t') ∧
    ∀ n, emitted n s = emitted n t

/-- 45_cycle.md R205, R207 and 42_frame_decoder.md R141: after a RainGauge sync the next 64 tokens, whatever
they are, are the frame: 64 steps emit one token, its outcome, and end the cycle. -/
def Obligations.RainGaugeFrameTakesSixtyFourTokens : Prop :=
  ∀ (s : State) (ds : List Nat) (rest : List PortIn),
    LegalRun s → s.phase = phaseCapRg → s.idx = 0#6 → ds.length = 64 → Feeds s ds rest →
    ∃ t, run 64 s = .next t ∧ AtCycleStart t ∧ t.raw.toList = ds ∧
      t.res = tokenRegs (finishRgToken s.cfg ds) ∧ emitted 64 s = [t.res] ∧
      t.port = rest.headD .idle ∧ t.pending = rest.tail

/-- 45_cycle.md R206, R207 and 42_frame_decoder.md R141: after an F007TP sync the next 39 tokens, whatever
they are, are the frame: 39 steps emit one token, its outcome, and end the cycle. -/
def Obligations.F007TPFrameTakesThirtyNineTokens : Prop :=
  ∀ (s : State) (ds : List Nat) (rest : List PortIn),
    LegalRun s → s.phase = phaseCapF7 → s.idx = 0#6 → ds.length = 39 → Feeds s ds rest →
    ∃ t, run 39 s = .next t ∧ AtCycleStart t ∧ t.raw.toList = ds ++ s.raw.toList.drop 39 ∧
      t.res = tokenRegs (finishF7Token s.cfg ds) ∧ emitted 39 s = [t.res] ∧
      t.port = rest.headD .idle ∧ t.pending = rest.tail

/-- The RainGauge round trip, for every payload: under the default configuration the frame that
30_encoding.md R87 writes for seven bytes is accepted on its 65th token, with the fields
44_field_extractor.md R180 gives (43_integrity.md R160). -/
def Obligations.RainGaugeFrameRoundTrip : Prop :=
  ∀ (s : State) (b0 b1 b2 b3 b4 b5 b6 : Byte) (rest : List PortIn),
    LegalRun s → s.cfg = Config.default → AtCycleStart s →
    Feeds s (rgFrame [b0, b1, b2, b3, b4, b5, b6]) rest →
    ∃ t, run 65 s = .next t ∧ AtCycleStart t ∧ emitted 65 s = [t.res] ∧
      t.res.status = 0b000#3 ∧ t.res.proto = 0b01#2 ∧ t.res.f7 = .zero ∧
      t.res.rg.bytes =
        b0 ++ b1 ++ b2 ++ b3 ++ b4 ++ b5 ++ b6 ++ (b0 + b1 + b2 + b3 + b4 + b5 + b6) ∧
      t.res.rg.id = b0 ++ b1 ∧ t.res.rg.rainRaw = b4 ++ b3 ∧
      t.res.rg.rain.toNat = ((b4 ++ b3).toNat + 10) * 108 / 100 ∧
      t.res.rg.tempRaw = b6 ++ b5 ∧ t.res.rg.tempNum.toInt = ((b6 ++ b5).toNat : Int) - 1220 ∧
      t.res.rg.lowbat = b2.getLsbD 7 ∧ t.res.rg.reset = b2.getLsbD 6

/-- The F007TP round trip, for every reading and every sufficient preamble: under the default
configuration the frame that 30_encoding.md R87 writes is accepted on its last token, with the fields
44_field_extractor.md R187 gives (43_integrity.md R162, R163). -/
def Obligations.F007TPFrameRoundTrip : Prop :=
  ∀ (s : State) (n id3 : Nat) (sign : Bool) (mag hum : Nat) (rest : List PortIn),
    LegalRun s → s.cfg = Config.default → AtCycleStart s → 4 ≤ n → n < 10000 →
    id3 < 8 → mag < 2048 → hum < 256 → Feeds s (f7Frame n id3 sign mag hum) rest →
    ∃ t, run (n + 40) s = .next t ∧ AtCycleStart t ∧ emitted (n + 40) s = [t.res] ∧
      t.res.status = 0b000#3 ∧ t.res.proto = 0b10#2 ∧ t.res.rg = .zero ∧
      t.res.f7.id.toNat = id3 + 1 ∧ t.res.f7.sign = sign ∧ t.res.f7.mag.toNat = mag ∧
      t.res.f7.int.toNat = mag / 10 ∧ t.res.f7.frac.toNat = mag % 10 ∧ t.res.f7.hum.toNat = hum

/-! ## Where operations stop -/

/-- 10_state.md R26: a frame with an unwritten entry among those its finish operation reads is a fault,
in the finish operation and in the packer on its own. -/
def Obligations.UnwrittenEntryReadFaults : Prop :=
  ∀ s : State, ConfigFixed s → TokenEdge s → s.cnt = 0#3 → s.att = 0 →
    ((∃ i : Fin 64, i.val < 63 ∧ s.written[i] = false) →
      exec .packRg s = .fault .unwrittenEntryRead ∧
      (s.phase = phaseCapRg → s.idx.toNat = 63 → exec .finishRg s = .fault .unwrittenEntryRead)) ∧
    ((∃ i : Fin 64, i.val < 38 ∧ s.written[i] = false) →
      exec .packF7 s = .fault .unwrittenEntryRead ∧
      (s.phase = phaseCapF7 → s.idx.toNat = 38 → exec .finishF7 s = .fault .unwrittenEntryRead))

/-- The model's own stops: a step operation on an edge that selects another one is refused (log 11), and
so is a token wider than the port, in every operation that takes the token (log 4). -/
def Obligations.OutsideTheMachineIsRefused : Prop :=
  (∀ (i j : Instr) (s : State), ConfigFixed s → isStepOp i = true → select s = .ok j → j ≠ i →
    exec i s = .refused .notSelected) ∧
  (∀ (i : Instr) (s : State), ConfigFixed s → 2 ^ s.cfg.durW ≤ s.port.inDur →
    ((i ∈ [.detectStep, .captureRg, .captureF7, .finishRg, .finishF7] → select s = .ok i →
        exec i s = .refused .durationTooWide) ∧
      (i ∈ [.classifyRg, .classifyF7, .packRg, .packF7] →
        exec i s = .refused .durationTooWide)))
end

