-- ==== Sys2Proof/Laws/State.lean ====
section
/-! SUPPORT. The updates of State, field by field: what each leaves in each field, and what it leaves in
the spec's own registers as a whole (`arch`). -/

namespace Sys2Proof.Machine

@[simp] theorem State.clearResult_cfg (s : State) :
    (s.clearResult).cfg = s.cfg := rfl
@[simp] theorem State.clearResult_built (s : State) :
    (s.clearResult).built = s.built := rfl
@[simp] theorem State.clearResult_phase (s : State) :
    (s.clearResult).phase = s.phase := rfl
@[simp] theorem State.clearResult_cnt (s : State) :
    (s.clearResult).cnt = s.cnt := rfl
@[simp] theorem State.clearResult_att (s : State) :
    (s.clearResult).att = s.att := rfl
@[simp] theorem State.clearResult_idx (s : State) :
    (s.clearResult).idx = s.idx := rfl
@[simp] theorem State.clearResult_raw (s : State) :
    (s.clearResult).raw = s.raw := rfl
@[simp] theorem State.clearResult_written (s : State) :
    (s.clearResult).written = s.written := rfl
@[simp] theorem State.clearResult_res (s : State) :
    (s.clearResult).res = ResultRegs.zero := rfl
@[simp] theorem State.clearResult_port (s : State) :
    (s.clearResult).port = s.port := rfl
@[simp] theorem State.clearResult_pending (s : State) :
    (s.clearResult).pending = s.pending := rfl
@[simp] theorem State.clearResult_nets (s : State) :
    (s.clearResult).nets = s.nets := rfl
@[simp] theorem State.clearResult_request (s : State) :
    (s.clearResult).request = s.request := rfl
@[simp] theorem State.clearResult_arch (s : State) :
    (s.clearResult).arch = { s.arch with res := ResultRegs.zero } := rfl

@[simp] theorem State.emit_cfg (s : State) (t : Token) :
    (s.emit t).cfg = s.cfg := rfl
@[simp] theorem State.emit_built (s : State) (t : Token) :
    (s.emit t).built = s.built := rfl
@[simp] theorem State.emit_phase (s : State) (t : Token) :
    (s.emit t).phase = s.phase := rfl
@[simp] theorem State.emit_cnt (s : State) (t : Token) :
    (s.emit t).cnt = s.cnt := rfl
@[simp] theorem State.emit_att (s : State) (t : Token) :
    (s.emit t).att = s.att := rfl
@[simp] theorem State.emit_idx (s : State) (t : Token) :
    (s.emit t).idx = s.idx := rfl
@[simp] theorem State.emit_raw (s : State) (t : Token) :
    (s.emit t).raw = s.raw := rfl
@[simp] theorem State.emit_written (s : State) (t : Token) :
    (s.emit t).written = s.written := rfl
@[simp] theorem State.emit_res (s : State) (t : Token) :
    (s.emit t).res = tokenRegs t := rfl
@[simp] theorem State.emit_port (s : State) (t : Token) :
    (s.emit t).port = s.port := rfl
@[simp] theorem State.emit_pending (s : State) (t : Token) :
    (s.emit t).pending = s.pending := rfl
@[simp] theorem State.emit_nets (s : State) (t : Token) :
    (s.emit t).nets = s.nets := rfl
@[simp] theorem State.emit_request (s : State) (t : Token) :
    (s.emit t).request = s.request := rfl
@[simp] theorem State.emit_arch (s : State) (t : Token) :
    (s.emit t).arch = { s.arch with res := tokenRegs t } := rfl

@[simp] theorem State.startCycle_cfg (s : State) :
    (s.startCycle).cfg = s.cfg := rfl
@[simp] theorem State.startCycle_built (s : State) :
    (s.startCycle).built = s.built := rfl
@[simp] theorem State.startCycle_phase (s : State) :
    (s.startCycle).phase = phaseSearch := rfl
@[simp] theorem State.startCycle_cnt (s : State) :
    (s.startCycle).cnt = 0#3 := rfl
@[simp] theorem State.startCycle_att (s : State) :
    (s.startCycle).att = 0 := rfl
@[simp] theorem State.startCycle_idx (s : State) :
    (s.startCycle).idx = 0#6 := rfl
@[simp] theorem State.startCycle_raw (s : State) :
    (s.startCycle).raw = s.raw := rfl
@[simp] theorem State.startCycle_written (s : State) :
    (s.startCycle).written = nothingWritten := rfl
@[simp] theorem State.startCycle_res (s : State) :
    (s.startCycle).res = s.res := rfl
@[simp] theorem State.startCycle_port (s : State) :
    (s.startCycle).port = s.port := rfl
@[simp] theorem State.startCycle_pending (s : State) :
    (s.startCycle).pending = s.pending := rfl
@[simp] theorem State.startCycle_nets (s : State) :
    (s.startCycle).nets = s.nets := rfl
@[simp] theorem State.startCycle_request (s : State) :
    (s.startCycle).request = s.request := rfl
@[simp] theorem State.startCycle_arch (s : State) :
    (s.startCycle).arch = { s.arch with
      phase := phaseSearch, cnt := 0#3, att := 0, idx := 0#6, written := nothingWritten } := rfl

@[simp] theorem State.endCycle_cfg (s : State) (t : Token) :
    (s.endCycle t).cfg = s.cfg := rfl
@[simp] theorem State.endCycle_built (s : State) (t : Token) :
    (s.endCycle t).built = s.built := rfl
@[simp] theorem State.endCycle_phase (s : State) (t : Token) :
    (s.endCycle t).phase = phaseSearch := rfl
@[simp] theorem State.endCycle_cnt (s : State) (t : Token) :
    (s.endCycle t).cnt = 0#3 := rfl
@[simp] theorem State.endCycle_att (s : State) (t : Token) :
    (s.endCycle t).att = 0 := rfl
@[simp] theorem State.endCycle_idx (s : State) (t : Token) :
    (s.endCycle t).idx = 0#6 := rfl
@[simp] theorem State.endCycle_raw (s : State) (t : Token) :
    (s.endCycle t).raw = s.raw := rfl
@[simp] theorem State.endCycle_written (s : State) (t : Token) :
    (s.endCycle t).written = nothingWritten := rfl
@[simp] theorem State.endCycle_res (s : State) (t : Token) :
    (s.endCycle t).res = tokenRegs t := rfl
@[simp] theorem State.endCycle_port (s : State) (t : Token) :
    (s.endCycle t).port = s.port := rfl
@[simp] theorem State.endCycle_pending (s : State) (t : Token) :
    (s.endCycle t).pending = s.pending := rfl
@[simp] theorem State.endCycle_nets (s : State) (t : Token) :
    (s.endCycle t).nets = s.nets := rfl
@[simp] theorem State.endCycle_request (s : State) (t : Token) :
    (s.endCycle t).request = s.request := rfl
@[simp] theorem State.endCycle_arch (s : State) (t : Token) :
    (s.endCycle t).arch = { s.arch with
      phase := phaseSearch, cnt := 0#3, att := 0, idx := 0#6, written := nothingWritten, res := tokenRegs t } := rfl

@[simp] theorem State.enterCapture_cfg (s : State) (p : BitVec 3) :
    (s.enterCapture p).cfg = s.cfg := rfl
@[simp] theorem State.enterCapture_built (s : State) (p : BitVec 3) :
    (s.enterCapture p).built = s.built := rfl
@[simp] theorem State.enterCapture_phase (s : State) (p : BitVec 3) :
    (s.enterCapture p).phase = p := rfl
@[simp] theorem State.enterCapture_cnt (s : State) (p : BitVec 3) :
    (s.enterCapture p).cnt = 0#3 := rfl
@[simp] theorem State.enterCapture_att (s : State) (p : BitVec 3) :
    (s.enterCapture p).att = 0 := rfl
@[simp] theorem State.enterCapture_idx (s : State) (p : BitVec 3) :
    (s.enterCapture p).idx = 0#6 := rfl
@[simp] theorem State.enterCapture_raw (s : State) (p : BitVec 3) :
    (s.enterCapture p).raw = s.raw := rfl
@[simp] theorem State.enterCapture_written (s : State) (p : BitVec 3) :
    (s.enterCapture p).written = s.written := rfl
@[simp] theorem State.enterCapture_res (s : State) (p : BitVec 3) :
    (s.enterCapture p).res = s.res := rfl
@[simp] theorem State.enterCapture_port (s : State) (p : BitVec 3) :
    (s.enterCapture p).port = s.port := rfl
@[simp] theorem State.enterCapture_pending (s : State) (p : BitVec 3) :
    (s.enterCapture p).pending = s.pending := rfl
@[simp] theorem State.enterCapture_nets (s : State) (p : BitVec 3) :
    (s.enterCapture p).nets = s.nets := rfl
@[simp] theorem State.enterCapture_request (s : State) (p : BitVec 3) :
    (s.enterCapture p).request = s.request := rfl
@[simp] theorem State.enterCapture_arch (s : State) (p : BitVec 3) :
    (s.enterCapture p).arch = { s.arch with phase := p, cnt := 0#3, att := 0, idx := 0#6 } := rfl

@[simp] theorem State.writeRaw_cfg (s : State) (d : Nat) :
    (s.writeRaw d).cfg = s.cfg := rfl
@[simp] theorem State.writeRaw_built (s : State) (d : Nat) :
    (s.writeRaw d).built = s.built := rfl
@[simp] theorem State.writeRaw_phase (s : State) (d : Nat) :
    (s.writeRaw d).phase = s.phase := rfl
@[simp] theorem State.writeRaw_cnt (s : State) (d : Nat) :
    (s.writeRaw d).cnt = s.cnt := rfl
@[simp] theorem State.writeRaw_att (s : State) (d : Nat) :
    (s.writeRaw d).att = s.att := rfl
@[simp] theorem State.writeRaw_idx (s : State) (d : Nat) :
    (s.writeRaw d).idx = s.idx := rfl
@[simp] theorem State.writeRaw_raw (s : State) (d : Nat) :
    (s.writeRaw d).raw = s.raw.set s.idx.toNat d s.idx.isLt := rfl
@[simp] theorem State.writeRaw_written (s : State) (d : Nat) :
    (s.writeRaw d).written = s.written.set s.idx.toNat true s.idx.isLt := rfl
@[simp] theorem State.writeRaw_res (s : State) (d : Nat) :
    (s.writeRaw d).res = s.res := rfl
@[simp] theorem State.writeRaw_port (s : State) (d : Nat) :
    (s.writeRaw d).port = s.port := rfl
@[simp] theorem State.writeRaw_pending (s : State) (d : Nat) :
    (s.writeRaw d).pending = s.pending := rfl
@[simp] theorem State.writeRaw_nets (s : State) (d : Nat) :
    (s.writeRaw d).nets = s.nets := rfl
@[simp] theorem State.writeRaw_request (s : State) (d : Nat) :
    (s.writeRaw d).request = s.request := rfl
@[simp] theorem State.writeRaw_arch (s : State) (d : Nat) :
    (s.writeRaw d).arch = { s.arch with
      raw := s.raw.set s.idx.toNat d s.idx.isLt, written := s.written.set s.idx.toNat true s.idx.isLt } := rfl

@[simp] theorem State.capture_cfg (s : State) (d : Nat) :
    (s.capture d).cfg = s.cfg := rfl
@[simp] theorem State.capture_built (s : State) (d : Nat) :
    (s.capture d).built = s.built := rfl
@[simp] theorem State.capture_phase (s : State) (d : Nat) :
    (s.capture d).phase = s.phase := rfl
@[simp] theorem State.capture_cnt (s : State) (d : Nat) :
    (s.capture d).cnt = s.cnt := rfl
@[simp] theorem State.capture_att (s : State) (d : Nat) :
    (s.capture d).att = s.att := rfl
@[simp] theorem State.capture_idx (s : State) (d : Nat) :
    (s.capture d).idx = s.idx + 1#6 := rfl
@[simp] theorem State.capture_raw (s : State) (d : Nat) :
    (s.capture d).raw = s.raw.set s.idx.toNat d s.idx.isLt := rfl
@[simp] theorem State.capture_written (s : State) (d : Nat) :
    (s.capture d).written = s.written.set s.idx.toNat true s.idx.isLt := rfl
@[simp] theorem State.capture_res (s : State) (d : Nat) :
    (s.capture d).res = s.res := rfl
@[simp] theorem State.capture_port (s : State) (d : Nat) :
    (s.capture d).port = s.port := rfl
@[simp] theorem State.capture_pending (s : State) (d : Nat) :
    (s.capture d).pending = s.pending := rfl
@[simp] theorem State.capture_nets (s : State) (d : Nat) :
    (s.capture d).nets = s.nets := rfl
@[simp] theorem State.capture_request (s : State) (d : Nat) :
    (s.capture d).request = s.request := rfl
@[simp] theorem State.capture_arch (s : State) (d : Nat) :
    (s.capture d).arch = { s.arch with
      idx := s.idx + 1#6, raw := s.raw.set s.idx.toNat d s.idx.isLt, written := s.written.set s.idx.toNat true s.idx.isLt } := rfl

@[simp] theorem State.countAttempt_cfg (s : State) (n : Nat) :
    (s.countAttempt n).cfg = s.cfg := rfl
@[simp] theorem State.countAttempt_built (s : State) (n : Nat) :
    (s.countAttempt n).built = s.built := rfl
@[simp] theorem State.countAttempt_phase (s : State) (n : Nat) :
    (s.countAttempt n).phase = s.phase := rfl
@[simp] theorem State.countAttempt_cnt (s : State) (n : Nat) :
    (s.countAttempt n).cnt = BitVec.ofNat 3 n := rfl
@[simp] theorem State.countAttempt_att (s : State) (n : Nat) :
    (s.countAttempt n).att = s.att + 1 := rfl
@[simp] theorem State.countAttempt_idx (s : State) (n : Nat) :
    (s.countAttempt n).idx = s.idx := rfl
@[simp] theorem State.countAttempt_raw (s : State) (n : Nat) :
    (s.countAttempt n).raw = s.raw := rfl
@[simp] theorem State.countAttempt_written (s : State) (n : Nat) :
    (s.countAttempt n).written = s.written := rfl
@[simp] theorem State.countAttempt_res (s : State) (n : Nat) :
    (s.countAttempt n).res = s.res := rfl
@[simp] theorem State.countAttempt_port (s : State) (n : Nat) :
    (s.countAttempt n).port = s.port := rfl
@[simp] theorem State.countAttempt_pending (s : State) (n : Nat) :
    (s.countAttempt n).pending = s.pending := rfl
@[simp] theorem State.countAttempt_nets (s : State) (n : Nat) :
    (s.countAttempt n).nets = s.nets := rfl
@[simp] theorem State.countAttempt_request (s : State) (n : Nat) :
    (s.countAttempt n).request = s.request := rfl
@[simp] theorem State.countAttempt_arch (s : State) (n : Nat) :
    (s.countAttempt n).arch = { s.arch with cnt := BitVec.ofNat 3 n, att := s.att + 1 } := rfl

@[simp] theorem State.resetRegisters_cfg (s : State) :
    (s.resetRegisters).cfg = s.cfg := rfl
@[simp] theorem State.resetRegisters_built (s : State) :
    (s.resetRegisters).built = s.built := rfl
@[simp] theorem State.resetRegisters_phase (s : State) :
    (s.resetRegisters).phase = phaseSearch := rfl
@[simp] theorem State.resetRegisters_cnt (s : State) :
    (s.resetRegisters).cnt = 0#3 := rfl
@[simp] theorem State.resetRegisters_att (s : State) :
    (s.resetRegisters).att = 0 := rfl
@[simp] theorem State.resetRegisters_idx (s : State) :
    (s.resetRegisters).idx = 0#6 := rfl
@[simp] theorem State.resetRegisters_raw (s : State) :
    (s.resetRegisters).raw = s.raw := rfl
@[simp] theorem State.resetRegisters_written (s : State) :
    (s.resetRegisters).written = nothingWritten := rfl
@[simp] theorem State.resetRegisters_res (s : State) :
    (s.resetRegisters).res = ResultRegs.zero := rfl
@[simp] theorem State.resetRegisters_port (s : State) :
    (s.resetRegisters).port = s.port := rfl
@[simp] theorem State.resetRegisters_pending (s : State) :
    (s.resetRegisters).pending = s.pending := rfl
@[simp] theorem State.resetRegisters_nets (s : State) :
    (s.resetRegisters).nets = s.nets := rfl
@[simp] theorem State.resetRegisters_request (s : State) :
    (s.resetRegisters).request = s.request := rfl
@[simp] theorem State.resetRegisters_arch (s : State) :
    (s.resetRegisters).arch = { s.arch with
      phase := phaseSearch, cnt := 0#3, att := 0, idx := 0#6, written := nothingWritten, res := ResultRegs.zero } := rfl

@[simp] theorem State.showNets_cfg (s : State) (n : Nets) :
    (s.showNets n).cfg = s.cfg := rfl
@[simp] theorem State.showNets_built (s : State) (n : Nets) :
    (s.showNets n).built = s.built := rfl
@[simp] theorem State.showNets_phase (s : State) (n : Nets) :
    (s.showNets n).phase = s.phase := rfl
@[simp] theorem State.showNets_cnt (s : State) (n : Nets) :
    (s.showNets n).cnt = s.cnt := rfl
@[simp] theorem State.showNets_att (s : State) (n : Nets) :
    (s.showNets n).att = s.att := rfl
@[simp] theorem State.showNets_idx (s : State) (n : Nets) :
    (s.showNets n).idx = s.idx := rfl
@[simp] theorem State.showNets_raw (s : State) (n : Nets) :
    (s.showNets n).raw = s.raw := rfl
@[simp] theorem State.showNets_written (s : State) (n : Nets) :
    (s.showNets n).written = s.written := rfl
@[simp] theorem State.showNets_res (s : State) (n : Nets) :
    (s.showNets n).res = s.res := rfl
@[simp] theorem State.showNets_port (s : State) (n : Nets) :
    (s.showNets n).port = s.port := rfl
@[simp] theorem State.showNets_pending (s : State) (n : Nets) :
    (s.showNets n).pending = s.pending := rfl
@[simp] theorem State.showNets_nets (s : State) (n : Nets) :
    (s.showNets n).nets = n := rfl
@[simp] theorem State.showNets_request (s : State) (n : Nets) :
    (s.showNets n).request = s.request := rfl
@[simp] theorem State.showNets_arch (s : State) (n : Nets) :
    (s.showNets n).arch = s.arch := rfl

@[simp] theorem State.nextEdge_cfg (s : State) :
    (s.nextEdge).cfg = s.cfg := rfl
@[simp] theorem State.nextEdge_built (s : State) :
    (s.nextEdge).built = s.built := rfl
@[simp] theorem State.nextEdge_phase (s : State) :
    (s.nextEdge).phase = s.phase := rfl
@[simp] theorem State.nextEdge_cnt (s : State) :
    (s.nextEdge).cnt = s.cnt := rfl
@[simp] theorem State.nextEdge_att (s : State) :
    (s.nextEdge).att = s.att := rfl
@[simp] theorem State.nextEdge_idx (s : State) :
    (s.nextEdge).idx = s.idx := rfl
@[simp] theorem State.nextEdge_raw (s : State) :
    (s.nextEdge).raw = s.raw := rfl
@[simp] theorem State.nextEdge_written (s : State) :
    (s.nextEdge).written = s.written := rfl
@[simp] theorem State.nextEdge_res (s : State) :
    (s.nextEdge).res = s.res := rfl
@[simp] theorem State.nextEdge_port (s : State) :
    (s.nextEdge).port = s.pending.headD .idle := rfl
@[simp] theorem State.nextEdge_pending (s : State) :
    (s.nextEdge).pending = s.pending.tail := rfl
@[simp] theorem State.nextEdge_nets (s : State) :
    (s.nextEdge).nets = s.nets := rfl
@[simp] theorem State.nextEdge_request (s : State) :
    (s.nextEdge).request = none := rfl
@[simp] theorem State.nextEdge_arch (s : State) :
    (s.nextEdge).arch = s.arch := rfl

@[simp] theorem State.takeRequest_cfg (s : State) :
    (s.takeRequest).cfg = s.cfg := rfl
@[simp] theorem State.takeRequest_built (s : State) :
    (s.takeRequest).built = s.built := rfl
@[simp] theorem State.takeRequest_phase (s : State) :
    (s.takeRequest).phase = s.phase := rfl
@[simp] theorem State.takeRequest_cnt (s : State) :
    (s.takeRequest).cnt = s.cnt := rfl
@[simp] theorem State.takeRequest_att (s : State) :
    (s.takeRequest).att = s.att := rfl
@[simp] theorem State.takeRequest_idx (s : State) :
    (s.takeRequest).idx = s.idx := rfl
@[simp] theorem State.takeRequest_raw (s : State) :
    (s.takeRequest).raw = s.raw := rfl
@[simp] theorem State.takeRequest_written (s : State) :
    (s.takeRequest).written = s.written := rfl
@[simp] theorem State.takeRequest_res (s : State) :
    (s.takeRequest).res = s.res := rfl
@[simp] theorem State.takeRequest_port (s : State) :
    (s.takeRequest).port = s.port := rfl
@[simp] theorem State.takeRequest_pending (s : State) :
    (s.takeRequest).pending = s.pending := rfl
@[simp] theorem State.takeRequest_nets (s : State) :
    (s.takeRequest).nets = s.nets := rfl
@[simp] theorem State.takeRequest_request (s : State) :
    (s.takeRequest).request = none := rfl
@[simp] theorem State.takeRequest_arch (s : State) :
    (s.takeRequest).arch = s.arch := rfl

@[simp] theorem State.arch_phase (s : State) : s.arch.phase = s.phase := rfl
@[simp] theorem State.arch_cnt (s : State) : s.arch.cnt = s.cnt := rfl
@[simp] theorem State.arch_att (s : State) : s.arch.att = s.att := rfl
@[simp] theorem State.arch_idx (s : State) : s.arch.idx = s.idx := rfl
@[simp] theorem State.arch_raw (s : State) : s.arch.raw = s.raw := rfl
@[simp] theorem State.arch_written (s : State) : s.arch.written = s.written := rfl
@[simp] theorem State.arch_res (s : State) : s.arch.res = s.res := rfl

/-- Two states with the same registers agree in each. -/
theorem State.arch_eq_iff (s t : State) : s.arch = t.arch ↔
    s.phase = t.phase ∧ s.cnt = t.cnt ∧ s.att = t.att ∧ s.idx = t.idx ∧ s.raw = t.raw
      ∧ s.written = t.written ∧ s.res = t.res := by
  simp [State.arch]

/-! The nets after a packer was evaluated on its own. -/

@[simp] theorem Nets.showPackRg_clsRg (a : Option (BitVec 64)) (n : Nets) :
    (n.showPackRg a).clsRg = n.clsRg := rfl
@[simp] theorem Nets.showPackRg_clsF7 (a : Option (BitVec 64)) (n : Nets) :
    (n.showPackRg a).clsF7 = n.clsF7 := rfl
@[simp] theorem Nets.showPackRg_packRg (a : Option (BitVec 64)) (n : Nets) :
    (n.showPackRg a).packRg = a := rfl
@[simp] theorem Nets.showPackRg_packF7 (a : Option (BitVec 64)) (n : Nets) :
    (n.showPackRg a).packF7 = n.packF7 := rfl
@[simp] theorem Nets.showPackRg_checksumRg (a : Option (BitVec 64)) (n : Nets) :
    (n.showPackRg a).checksumRg = none := rfl
@[simp] theorem Nets.showPackRg_headerF7 (a : Option (BitVec 64)) (n : Nets) :
    (n.showPackRg a).headerF7 = n.headerF7 := rfl
@[simp] theorem Nets.showPackRg_crc8F7 (a : Option (BitVec 64)) (n : Nets) :
    (n.showPackRg a).crc8F7 = n.crc8F7 := rfl
@[simp] theorem Nets.showPackRg_extractRg (a : Option (BitVec 64)) (n : Nets) :
    (n.showPackRg a).extractRg = .zero := rfl
@[simp] theorem Nets.showPackRg_extractF7 (a : Option (BitVec 64)) (n : Nets) :
    (n.showPackRg a).extractF7 = n.extractF7 := rfl

@[simp] theorem Nets.showPackF7_clsRg (a : Option (BitVec 40)) (n : Nets) :
    (n.showPackF7 a).clsRg = n.clsRg := rfl
@[simp] theorem Nets.showPackF7_clsF7 (a : Option (BitVec 40)) (n : Nets) :
    (n.showPackF7 a).clsF7 = n.clsF7 := rfl
@[simp] theorem Nets.showPackF7_packRg (a : Option (BitVec 40)) (n : Nets) :
    (n.showPackF7 a).packRg = n.packRg := rfl
@[simp] theorem Nets.showPackF7_packF7 (a : Option (BitVec 40)) (n : Nets) :
    (n.showPackF7 a).packF7 = a := rfl
@[simp] theorem Nets.showPackF7_checksumRg (a : Option (BitVec 40)) (n : Nets) :
    (n.showPackF7 a).checksumRg = n.checksumRg := rfl
@[simp] theorem Nets.showPackF7_headerF7 (a : Option (BitVec 40)) (n : Nets) :
    (n.showPackF7 a).headerF7 = none := rfl
@[simp] theorem Nets.showPackF7_crc8F7 (a : Option (BitVec 40)) (n : Nets) :
    (n.showPackF7 a).crc8F7 = none := rfl
@[simp] theorem Nets.showPackF7_extractRg (a : Option (BitVec 40)) (n : Nets) :
    (n.showPackF7 a).extractRg = n.extractRg := rfl
@[simp] theorem Nets.showPackF7_extractF7 (a : Option (BitVec 40)) (n : Nets) :
    (n.showPackF7 a).extractF7 = .zero := rfl

end Sys2Proof.Machine
end

