-- ==== Sys2Proof/Laws/Ops.lean ====
section
/-! SUPPORT. What each shared operation can do, said once: the checks before an operation, the
selection of a clock edge's operation, and the fetch. -/

namespace Sys2Proof.Machine

variable {s t : State} {i : Instr} {answer : Outcome}

/-! The phase codes are distinct. -/

@[simp] theorem phaseSearch_ne_capRg : phaseSearch ≠ phaseCapRg := by decide
@[simp] theorem phaseSearch_ne_capF7 : phaseSearch ≠ phaseCapF7 := by decide
@[simp] theorem phaseCapRg_ne_search : phaseCapRg ≠ phaseSearch := by decide
@[simp] theorem phaseCapRg_ne_capF7 : phaseCapRg ≠ phaseCapF7 := by decide
@[simp] theorem phaseCapF7_ne_search : phaseCapF7 ≠ phaseSearch := by decide
@[simp] theorem phaseCapF7_ne_capRg : phaseCapF7 ≠ phaseCapRg := by decide

/-- The configuration is not refused exactly when it is fixed. -/
theorem configRefusal_eq_none_iff : configRefusal s = none ↔ ConfigFixed s := by
  simp only [configRefusal, ConfigFixed]
  split
  · simp_all
  · split <;> simp_all

theorem withConfig_of_fixed (h : ConfigFixed s) : withConfig s answer = answer := by
  simp [withConfig, configRefusal_eq_none_iff.2 h]

/-- A changed configuration is refused, whatever the answer. -/
theorem withConfig_of_changed (h : s.cfg ≠ s.built) :
    withConfig s answer = .refused .configChanged := by
  simp [withConfig, configRefusal, h]

/-- An ill-formed configuration is refused, whatever the answer. -/
theorem withConfig_of_illFormed (hb : s.cfg = s.built) (hw : s.cfg.wellFormed = false) :
    withConfig s answer = .refused .configNotWellFormed := by
  simp [withConfig, configRefusal, ← hb, hw]

/-- A next state comes through the configuration check exactly when the configuration is fixed. -/
theorem withConfig_eq_next_iff :
    withConfig s answer = .next t ↔ ConfigFixed s ∧ answer = .next t := by
  rw [← configRefusal_eq_none_iff, withConfig]
  cases h : configRefusal s <;> simp

theorem withToken_of_fits {use : Nat → Outcome} (h : s.port.inDur < 2 ^ s.cfg.durW) :
    withToken s use = use s.port.inDur := by
  simp [withToken, h]

/-- A next state comes from the token exactly when its duration fits the port. -/
theorem withToken_eq_next_iff {use : Nat → Outcome} :
    withToken s use = .next t ↔
      s.port.inDur < 2 ^ s.cfg.durW ∧ use s.port.inDur = .next t := by
  simp only [withToken]
  split <;> simp_all

theorem withCaptured_of_written {n : Nat} {use : List Nat → Outcome}
    (h : (s.written.toList.take n).all id = true) :
    withCaptured s n use = use (s.raw.toList.take n) := by
  simp only [withCaptured, h, if_true]

/-- A next state comes from the captured entries exactly when each counts as written. -/
theorem withCaptured_eq_next_iff {n : Nat} {use : List Nat → Outcome} :
    withCaptured s n use = .next t ↔
      (s.written.toList.take n).all id = true ∧ use (s.raw.toList.take n) = .next t := by
  simp only [withCaptured]
  split <;> simp_all

/-- A next state comes from a frame exactly when the token fits and each entry counts as written. -/
theorem withFrame_eq_next_iff {n : Nat} {use : List Nat → Outcome} :
    withFrame s n use = .next t ↔
      s.port.inDur < 2 ^ s.cfg.durW ∧ (s.written.toList.take n).all id = true
        ∧ use (s.raw.toList.take n ++ [s.port.inDur]) = .next t := by
  simp only [withFrame, withToken_eq_next_iff, withCaptured_eq_next_iff]

theorem onNext_eq_next_iff {f : State → State} :
    onNext f answer = .next t ↔ ∃ u, answer = .next u ∧ f u = t := by
  cases answer <;> simp [onNext]

/-- A step operation answers a next state exactly on the edge that selects it, and the edge's inputs
are consumed with it. -/
theorem clockEdge_eq_next_iff :
    clockEdge i s answer = .next t ↔
      ConfigFixed s ∧ select s = .ok i ∧ ∃ u, answer = .next u ∧ u.nextEdge = t := by
  rw [clockEdge, withConfig_eq_next_iff]
  refine and_congr_right fun _ => ?_
  cases h : select s with
  | error f => simp
  | ok j =>
    by_cases hj : j = i
    · simp [hj, onNext_eq_next_iff]
    · simp [hj]

theorem clockEdge_of_selected (hc : ConfigFixed s) (hs : select s = .ok i) :
    clockEdge i s answer = onNext State.nextEdge answer := by
  simp [clockEdge, withConfig_of_fixed hc, hs]

/-- A combinational operation on its own answers a next state exactly when its unit does. -/
theorem onItsOwn_eq_next_iff :
    onItsOwn s answer = .next t ↔ ConfigFixed s ∧ ∃ u, answer = .next u ∧ u.takeRequest = t := by
  rw [onItsOwn, withConfig_eq_next_iff, onNext_eq_next_iff]

theorem onItsOwn_of_fixed (hc : ConfigFixed s) :
    onItsOwn s answer = onNext State.takeRequest answer := by
  simp [onItsOwn, withConfig_of_fixed hc]

/-- The registers raise no fault exactly when they are in the range R33 gives. -/
theorem registerFault_eq_none_iff : registerFault s = none ↔ RegistersInRange s := by
  have h63 : s.idx.toNat ≤ 63 := by have := s.idx.isLt; omega
  simp only [registerFault, RegistersInRange]
  by_cases h0 : s.phase = phaseSearch
  · by_cases hi : s.idx = 0#6 <;> simp [h0, hi]
  · by_cases h1 : s.phase = phaseCapRg
    · simp [h1, h63]
    · by_cases h2 : s.phase = phaseCapF7
      · by_cases hi : 38 < s.idx.toNat
        · simp [h2, hi, Nat.not_le.2 hi]
        · simp [h2, hi, Nat.not_lt.1 hi]
      · simp [h0, h1, h2]

theorem select_of_reset (h : s.port.rst = true) : select s = .ok .reset := by
  simp [select, h]

theorem select_of_idle (hr : s.port.rst = false) (hv : s.port.inValid = false) :
    select s = .ok .hold := by
  simp [select, hr, hv]

theorem select_of_token (hr : s.port.rst = false) (hv : s.port.inValid = true)
    (h : RegistersInRange s) : select s = .ok (tokenOp s) := by
  simp [select, hr, hv, registerFault_eq_none_iff.2 h]

/-- What an edge selects, said once: RESET, HOLD, or the operation of the phase on a valid token with
the registers in range. -/
theorem select_eq_ok_iff : select s = .ok i ↔
    (s.port.rst = true ∧ i = .reset)
      ∨ (s.port.rst = false ∧ s.port.inValid = false ∧ i = .hold)
      ∨ (s.port.rst = false ∧ s.port.inValid = true ∧ RegistersInRange s ∧ i = tokenOp s) := by
  cases hr : s.port.rst
  · cases hv : s.port.inValid
    · simpa [select_of_idle hr hv] using ⟨Eq.symm, Eq.symm⟩
    · rw [← registerFault_eq_none_iff]
      simp only [select, hr, hv]
      cases h : registerFault s
      · simpa using ⟨Eq.symm, Eq.symm⟩
      · simp
  · simpa [select_of_reset hr] using ⟨Eq.symm, Eq.symm⟩

theorem step_of_selected (hq : s.request = none) (hs : select s = .ok i) : step s = exec i s := by
  simp [step, fetch, hq, hs]

theorem step_of_requested {b : Byte} (hq : s.request = some b) (hd : decode [b] = .ok i) :
    step s = exec i s := by
  simp [step, fetch, hq, hd]

/-- Whatever a step's next state is, it is the next state of one operation. -/
theorem step_eq_next (h : step s = .next t) : ∃ i, fetch s = .op i ∧ exec i s = .next t := by
  rw [step] at h
  split at h
  · exact ⟨_, ‹_›, h⟩
  · simp [withConfig_eq_next_iff] at h
  · simp [withConfig_eq_next_iff] at h

end Sys2Proof.Machine
end

