-- ==== Sys2Proof/Laws/Exec.lean ====
section
/-! SUPPORT. What each operation can do, said once: when `exec` answers a next state, and which. -/

namespace Sys2Proof.Machine

variable {s t : State}

/-- The entries `raw[0..n-1]` all count as written (10_state.md R26). -/
theorem take_all_written_iff (n : Nat) :
    (s.written.toList.take n).all id = true ↔ ∀ i : Fin 64, i.val < n → s.written[i] = true := by
  simp only [List.all_eq_true, List.mem_take_iff_getElem, id]
  constructor
  · intro h i hi
    exact h _ ⟨i, by simp; omega, by simp⟩
  · rintro h b ⟨i, hi, rfl⟩
    have hi' : i < n ∧ i < 64 := by simpa using hi
    simpa using h ⟨i, hi'.2⟩ hi'.1

theorem exec_hold_eq_next_iff : exec .hold s = .next t ↔
    ConfigFixed s ∧ select s = .ok .hold ∧ s.clearResult.nextEdge = t := by
  simp [exec, execHold, clockEdge_eq_next_iff]

theorem exec_reset_eq_next_iff : exec .reset s = .next t ↔
    ConfigFixed s ∧ select s = .ok .reset ∧ s.resetRegisters.nextEdge = t := by
  simp [exec, execReset, clockEdge_eq_next_iff]

theorem exec_cycleStart_eq_next_iff : exec .cycleStart s = .next t ↔
    ConfigFixed s ∧ s.startCycle.takeRequest = t := by
  simp [exec, execCycleStart, onItsOwn_eq_next_iff]

theorem exec_classifyRg_eq_next_iff : exec .classifyRg s = .next t ↔
    ConfigFixed s ∧ s.port.inDur < 2 ^ s.cfg.durW ∧
      (s.showNets { s.nets with clsRg := clsRg s.cfg s.port.inDur }).takeRequest = t := by
  simp [exec, execClassifyRg, onItsOwn_eq_next_iff, withToken_eq_next_iff]

theorem exec_classifyF7_eq_next_iff : exec .classifyF7 s = .next t ↔
    ConfigFixed s ∧ s.port.inDur < 2 ^ s.cfg.durW ∧
      (s.showNets { s.nets with clsF7 := clsF7 s.cfg s.port.inDur }).takeRequest = t := by
  simp [exec, execClassifyF7, onItsOwn_eq_next_iff, withToken_eq_next_iff]

theorem exec_detectStep_eq_next_iff : exec .detectStep s = .next t ↔
    ConfigFixed s ∧ select s = .ok .detectStep ∧ s.port.inDur < 2 ^ s.cfg.durW ∧
      (detect s s.port.inDur).nextEdge = t := by
  simp [exec, execDetectStep, clockEdge_eq_next_iff, withToken_eq_next_iff]

theorem exec_captureRg_eq_next_iff : exec .captureRg s = .next t ↔
    ConfigFixed s ∧ select s = .ok .captureRg ∧ s.port.inDur < 2 ^ s.cfg.durW ∧
      (s.capture s.port.inDur).clearResult.nextEdge = t := by
  simp [exec, execCaptureRg, clockEdge_eq_next_iff, withToken_eq_next_iff]

theorem exec_captureF7_eq_next_iff : exec .captureF7 s = .next t ↔
    ConfigFixed s ∧ select s = .ok .captureF7 ∧ s.port.inDur < 2 ^ s.cfg.durW ∧
      (s.capture s.port.inDur).clearResult.nextEdge = t := by
  simp [exec, execCaptureF7, clockEdge_eq_next_iff, withToken_eq_next_iff]

theorem exec_packRg_eq_next_iff : exec .packRg s = .next t ↔
    ConfigFixed s ∧ s.port.inDur < 2 ^ s.cfg.durW ∧ (s.written.toList.take 63).all id = true ∧
      (s.showNets (s.nets.showPackRg
        (packRg s.cfg (s.raw.toList.take 63 ++ [s.port.inDur])))).takeRequest = t := by
  simp [exec, execPackRg, onItsOwn_eq_next_iff, withFrame_eq_next_iff, and_assoc]

theorem exec_packF7_eq_next_iff : exec .packF7 s = .next t ↔
    ConfigFixed s ∧ s.port.inDur < 2 ^ s.cfg.durW ∧ (s.written.toList.take 38).all id = true ∧
      (s.showNets (s.nets.showPackF7
        (packF7 s.cfg (s.raw.toList.take 38 ++ [s.port.inDur])))).takeRequest = t := by
  simp [exec, execPackF7, onItsOwn_eq_next_iff, withFrame_eq_next_iff, and_assoc]

theorem exec_checksumRg_eq_next_iff : exec .checksumRg s = .next t ↔
    ConfigFixed s ∧
      (s.showNets { s.nets with checksumRg := s.nets.packRg.map checksumRg }).takeRequest = t := by
  simp [exec, execChecksumRg, onItsOwn_eq_next_iff]

theorem exec_headerF7_eq_next_iff : exec .headerF7 s = .next t ↔
    ConfigFixed s ∧
      (s.showNets { s.nets with
        headerF7 := s.nets.packF7.map (headerF7 s.cfg) }).takeRequest = t := by
  simp [exec, execHeaderF7, onItsOwn_eq_next_iff]

theorem exec_crc8F7_eq_next_iff : exec .crc8F7 s = .next t ↔
    ConfigFixed s ∧
      (s.showNets { s.nets with crc8F7 := shownCrc8F7 s.cfg s.nets }).takeRequest = t := by
  simp [exec, execCrc8F7, onItsOwn_eq_next_iff]

theorem exec_extractRg_eq_next_iff : exec .extractRg s = .next t ↔
    ConfigFixed s ∧
      (s.showNets { s.nets with extractRg := shownRgFields s.cfg s.nets }).takeRequest = t := by
  simp [exec, execExtractRg, onItsOwn_eq_next_iff]

theorem exec_extractF7_eq_next_iff : exec .extractF7 s = .next t ↔
    ConfigFixed s ∧
      (s.showNets { s.nets with extractF7 := shownF7Fields s.cfg s.nets }).takeRequest = t := by
  simp [exec, execExtractF7, onItsOwn_eq_next_iff]

theorem exec_finishRg_eq_next_iff : exec .finishRg s = .next t ↔
    ConfigFixed s ∧ select s = .ok .finishRg ∧ s.port.inDur < 2 ^ s.cfg.durW ∧
      (s.written.toList.take 63).all id = true ∧
      ((s.writeRaw s.port.inDur).endCycle
        (finishRgToken s.cfg (s.raw.toList.take 63 ++ [s.port.inDur]))).nextEdge = t := by
  simp [exec, execFinishRg, clockEdge_eq_next_iff, withFrame_eq_next_iff, and_assoc]

theorem exec_finishF7_eq_next_iff : exec .finishF7 s = .next t ↔
    ConfigFixed s ∧ select s = .ok .finishF7 ∧ s.port.inDur < 2 ^ s.cfg.durW ∧
      (s.written.toList.take 38).all id = true ∧
      ((s.writeRaw s.port.inDur).endCycle
        (finishF7Token s.cfg (s.raw.toList.take 38 ++ [s.port.inDur]))).nextEdge = t := by
  simp [exec, execFinishF7, clockEdge_eq_next_iff, withFrame_eq_next_iff, and_assoc]

end Sys2Proof.Machine
end

