-- ==== Sys2Proof/Laws/PerInstr.lean ====
section
/-! SUPPORT. What holds of every operation as syntax, one lemma per constructor. -/

namespace Sys2Proof.Laws.Encoding

/-- An operation is well-formed, its encoding is one byte with bits 7 to 5 zero, and the encoding
decodes to it (30_encoding.md R83; log 16). -/
def Statement (i : Instr) : Prop :=
  i.wellFormed = true ∧ (∃ b : Byte, encode i = [b] ∧ b.toNat ≤ 0x10) ∧ decode (encode i) = .ok i

theorem hold : Statement .hold := ⟨rfl, ⟨_, rfl, by decide⟩, rfl⟩
theorem classifyRg : Statement .classifyRg := ⟨rfl, ⟨_, rfl, by decide⟩, rfl⟩
theorem classifyF7 : Statement .classifyF7 := ⟨rfl, ⟨_, rfl, by decide⟩, rfl⟩
theorem detectStep : Statement .detectStep := ⟨rfl, ⟨_, rfl, by decide⟩, rfl⟩
theorem captureRg : Statement .captureRg := ⟨rfl, ⟨_, rfl, by decide⟩, rfl⟩
theorem captureF7 : Statement .captureF7 := ⟨rfl, ⟨_, rfl, by decide⟩, rfl⟩
theorem packRg : Statement .packRg := ⟨rfl, ⟨_, rfl, by decide⟩, rfl⟩
theorem packF7 : Statement .packF7 := ⟨rfl, ⟨_, rfl, by decide⟩, rfl⟩
theorem checksumRg : Statement .checksumRg := ⟨rfl, ⟨_, rfl, by decide⟩, rfl⟩
theorem headerF7 : Statement .headerF7 := ⟨rfl, ⟨_, rfl, by decide⟩, rfl⟩
theorem crc8F7 : Statement .crc8F7 := ⟨rfl, ⟨_, rfl, by decide⟩, rfl⟩
theorem extractRg : Statement .extractRg := ⟨rfl, ⟨_, rfl, by decide⟩, rfl⟩
theorem extractF7 : Statement .extractF7 := ⟨rfl, ⟨_, rfl, by decide⟩, rfl⟩
theorem finishRg : Statement .finishRg := ⟨rfl, ⟨_, rfl, by decide⟩, rfl⟩
theorem finishF7 : Statement .finishF7 := ⟨rfl, ⟨_, rfl, by decide⟩, rfl⟩
theorem cycleStart : Statement .cycleStart := ⟨rfl, ⟨_, rfl, by decide⟩, rfl⟩
theorem reset : Statement .reset := ⟨rfl, ⟨_, rfl, by decide⟩, rfl⟩

end Sys2Proof.Laws.Encoding
end

