-- ==== Sys2Proof/Laws/Run.lean ====
section
/-! SUPPORT. Runs of several steps, one step at a time. -/

namespace Sys2Proof.Machine

variable {n : Nat} {s t : State}

@[simp] theorem run_zero (s : State) : run 0 s = .next s := rfl

/-- A run whose first step goes on is the run from its next state. -/
theorem run_succ (h : step s = .next t) : run (n + 1) s = run n t := by
  have h' : Sys2Proof.core.step s = .next t := h
  simp only [run, Host.Core.run, h']
  rfl

@[simp] theorem emitted_zero (s : State) : emitted 0 s = [] := rfl

/-- The observation of a run whose first step goes on: that step's token, if it emits one, and then
those of the run from its next state. -/
theorem emitted_succ (h : step s = .next t) :
    emitted (n + 1) s = (if t.res.valid then [t.res] else []) ++ emitted n t := by
  simp only [emitted, h]

end Sys2Proof.Machine
end

