-- ==== Sys2Proof/Machine/Readings.lean ====
section
/-! DEFINITION. What a result token says to those outside the core: the kind of its outcome
(60_exceptions.md R221), the metrics an accepted frame feeds (44_field_extractor.md R195) and the
temperatures its fields stand for (R183, R189). The core computes none of this (00_scope.md R6): no
operation of the machine uses it, and statements and consumers may. -/

namespace Sys2Proof.Machine

/-- The three kinds of outcome without a reading (60_exceptions.md R221). -/
inductive OutcomeKind where
  | timeout
  | structuralRejection
  | integrityFailure
  deriving DecidableEq, Repr

/-- The kind of a token (R221); an accepted frame has none. -/
def outcomeKind : Token → Option OutcomeKind
  | .timeout => some .timeout
  | .reject .pulse _ => some .structuralRejection
  | .reject .header _ => some .structuralRejection
  | .reject .checksum _ => some .integrityFailure
  | .reject .crc _ => some .integrityFailure
  | .acceptRg _ => none
  | .acceptF7 _ => none

/-- The document's set of metrics (44_field_extractor.md R195). -/
inductive Metric where
  | temperature
  | rainfall
  | humidity
  | lowBattery
  | resetFlag
  deriving DecidableEq, Repr

/-- The metrics a token feeds (R195). -/
def metricsFed : Token → List Metric
  | .acceptRg _ => [.temperature, .rainfall, .lowBattery]
  | .acceptF7 _ => [.temperature]
  | .timeout => []
  | .reject _ _ => []

/-- The metrics a token carries that need not be published: "decoded but not required to be
published", "present, value unused downstream" (R195). -/
def metricsCarried : Token → List Metric
  | .acceptRg _ => [.resetFlag]
  | .acceptF7 _ => [.humidity]
  | .timeout => []
  | .reject _ _ => []

/-- The RainGauge temperature in tenths of a degree Fahrenheit (44_field_extractor.md R183). -/
def rgTenthsFahrenheit (c : Config) (r : RgFields) : Int := (r.tempRaw.toNat : Int) - c.rgTempOffset

/-- The RainGauge temperature in degrees Celsius, an exact rational over `RG_TEMP_DIV` (R183). -/
def rgCelsius (c : Config) (r : RgFields) : Rat := (r.tempNum.toInt : Rat) / (c.rgTempDiv : Rat)

/-- The F007TP temperature in degrees, which the source does not call Celsius or Fahrenheit:
sign-magnitude, in tenths (44_field_extractor.md R189). -/
def f7Degrees (r : F7Fields) : Rat := (if r.sign then -1 else 1) * (r.mag.toNat : Rat) / 10

end Sys2Proof.Machine
end

