-- ==== Sys2Proof/Tests/Slice0.lean ====
section
/-! SUPPORT. Tests: the configuration checks, the operation ids, the spec's vectors one step at a time,
and for each statement with hypotheses a witness that they can be met. Expected values are those of
95_test_vectors.md and of the rules named. -/

set_option maxRecDepth 4000

namespace Sys2Proof.Tests

open Sys2Proof Sys2Proof.Machine

/-! ## Helpers -/

/-- A capture buffer that begins with the durations ds. -/
def buffer (ds : List Nat) : Vector Nat 64 :=
  ⟨⟨(List.range 64).map fun i => ds.getD i 0⟩, by simp⟩

/-- A state with n captured pulses, under the configuration c, with the port and the input to come. -/
def stateAt (c : Config) (phase : BitVec 3) (cnt att n : Nat) (ds : List Nat) (port : PortIn)
    (pending : List PortIn) : State :=
  { State.reset with
    cfg := c, built := c, phase := phase, cnt := BitVec.ofNat 3 cnt, att := att,
    idx := BitVec.ofNat 6 n, raw := buffer ds, written := writtenBelow n, port := port,
    pending := pending }

/-- A search under the default configuration, with the duration d on the port. -/
def searching (cnt att d : Nat) : State :=
  stateAt .default phaseSearch cnt att 0 [] (.token d) []

/-- A RainGauge capture with the durations ds captured and d on the port. -/
def capturingRg (ds : List Nat) (d : Nat) : State :=
  stateAt .default phaseCapRg 0 0 ds.length ds (.token d) []

/-- An F007TP capture with the durations ds captured and d on the port. -/
def capturingF7 (ds : List Nat) (d : Nat) : State :=
  stateAt .default phaseCapF7 0 0 ds.length ds (.token d) []

/-- The last step of a RainGauge frame with the durations ds. -/
def lastRg (ds : List Nat) : State := capturingRg (ds.take 63) (ds.getD 63 0)

/-- The last step of an F007TP frame with the durations ds. -/
def lastF7 (ds : List Nat) : State := capturingF7 (ds.take 38) (ds.getD 38 0)

/-- The 39 durations of the frame bits `f[1..39]`. -/
def f7Pulses (f : BitVec 40) : List Nat := f7Bits (frameBits f 1 39)

/-- The frame of V-L1-1 and of V-L1-2 about to end. -/
def goodRg : State := lastRg (rgBytes [0x12, 0x34, 0x00, 0x05, 0x03, 0x8A, 0x6E, 0x46])
def goodF7 : State := lastF7 (f7Pulses 0x4000FA0016#40)

/-- The port and the input to come set to ps. -/
def fed (ps : List PortIn) (s : State) : State :=
  { s with port := ps.headD .idle, pending := ps.tail }

/-- The next state of an answer, if it is one. -/
def nextOf : Outcome → Option State
  | .next s => some s
  | _ => none

/-- The fault of an answer, if it is one. -/
def faultOf : Outcome → Option Fault
  | .fault f => some f
  | _ => none

/-- The refusal of an answer, if it is one. -/
def refusalOf : Outcome → Option Refusal
  | .refused r => some r
  | _ => none

/-- An answer that is a next state is that state. -/
theorem eq_next_of_nextOf {o : Outcome} {t : State} (h : nextOf o = some t) : o = .next t := by
  cases o <;> simp_all [nextOf]

/-- The check refuses the configuration, and so the step on it is refused as not well-formed
(00_scope.md R8). -/
def isRefused (check : Config → Bool) (c : Config) : Bool :=
  !check c && decide (refusalOf (step { State.reset with cfg := c, built := c })
    = some .configNotWellFormed)

/-! ## The checks of 00_scope.md R8, one ill-formed configuration for each -/

theorem smoke_default_passes : Config.default.wellFormed = true := by decide
theorem smoke_a_window_empty :
    isRefused Config.windowsOpen { f7ShortMin := 600 } = true := by decide
theorem smoke_b_maximum_too_wide :
    isRefused Config.maximaFit { rgSyncMax := 65536 } = true := by decide
theorem smoke_c_rainGauge_overlap :
    isRefused Config.rgDisjoint { rgShortMax := 2502 } = true := by decide
theorem smoke_d_f007tp_overlap :
    isRefused Config.f7Disjoint { f7ShortMax := 1351 } = true := by decide
theorem smoke_e_sentinel_in_window :
    isRefused Config.sentinelOutside { sentinel := 351 } = true := by decide
theorem smoke_f_no_attempts :
    isRefused Config.attemptsFit { maxAttempts := 0 } = true := by decide
theorem smoke_f_attempts_too_wide :
    isRefused Config.attemptsFit { maxAttempts := 16384 } = true := by decide
theorem smoke_g_run_over_counter :
    isRefused Config.runFits { preambleRun := 7 } = true := by decide
theorem smoke_g_counter_too_wide :
    isRefused Config.runFits { cntMax := 8 } = true := by decide
theorem smoke_h_division_by_zero :
    isRefused Config.divisorsPositive { rgTempDiv := 0 } = true := by decide
theorem smoke_i_polynomial_too_wide :
    isRefused Config.crcFits { crcPoly := 0x131 } = true := by decide
theorem smoke_j_temperature_too_low :
    isRefused Config.tempFits { rgTempOffset := 65217 } = true := by decide
theorem smoke_k_rainfall_too_high :
    isRefused Config.rainFits { rgRainNum := 201 } = true := by decide
theorem smoke_l_id_too_high :
    isRefused Config.idFits { f7IdBias := 9 } = true := by decide

/-! ## The words of 30_encoding.md R83, written out from the id column -/

theorem decode_step_operations :
    decode [0b00000000#8] = .ok .hold ∧ decode [0b00000011#8] = .ok .detectStep ∧
    decode [0b00000100#8] = .ok .captureRg ∧ decode [0b00000101#8] = .ok .captureF7 ∧
    decode [0b00001101#8] = .ok .finishRg ∧ decode [0b00001110#8] = .ok .finishF7 ∧
    decode [0b00010000#8] = .ok .reset := ⟨rfl, rfl, rfl, rfl, rfl, rfl, rfl⟩

theorem decode_combinational_operations :
    decode [0b00000001#8] = .ok .classifyRg ∧ decode [0b00000010#8] = .ok .classifyF7 ∧
    decode [0b00000110#8] = .ok .packRg ∧ decode [0b00000111#8] = .ok .packF7 ∧
    decode [0b00001000#8] = .ok .checksumRg ∧ decode [0b00001001#8] = .ok .headerF7 ∧
    decode [0b00001010#8] = .ok .crc8F7 ∧ decode [0b00001011#8] = .ok .extractRg ∧
    decode [0b00001100#8] = .ok .extractF7 ∧ decode [0b00001111#8] = .ok .cycleStart :=
  ⟨rfl, rfl, rfl, rfl, rfl, rfl, rfl, rfl, rfl, rfl⟩

/-- 0x11 is unassigned (R84), 0x20 is no id, and no byte is nothing. -/
theorem decode_rejections :
    decode [0b00010001#8] = .error (.unassigned 0b10001#5) ∧
    decode [0b00100000#8] = .error (.notAnOpId 0b00100000#8) ∧ decode [] = .error .noByte :=
  ⟨rfl, rfl, rfl⟩

/-! ## The vectors of 95_test_vectors.md -/

/-- V-CL, column `cls_RG`: the bounds of every window and their neighbours. -/
theorem vector_classify_rg :
    [0, 350, 475, 900, 901, 1099, 1100, 2000, 2500, 2501, 2899, 2900, 7300, 7301, 7699, 7700,
      65535].map (clsRg .default)
    = [.invalid, .invalid, .invalid, .invalid, .shortBit, .shortBit, .invalid, .invalid, .invalid,
      .longBit, .longBit, .invalid, .invalid, .syncMarker, .syncMarker, .invalid, .invalid] := by
  decide

/-- V-CL, column `cls_F7`. -/
theorem vector_classify_f7 :
    [0, 350, 351, 599, 600, 1000, 1350, 1351, 1599, 1600, 2700, 7500, 65535].map (clsF7 .default)
    = [.invalid, .invalid, .shortBit, .shortBit, .invalid, .invalid, .invalid, .longBit, .longBit,
      .invalid, .invalid, .invalid, .invalid] := by
  decide

/-- CLASSIFY_RG and CLASSIFY_F7 on a RainGauge sync pulse show SyncMarker and Invalid. -/
theorem vector_classify_own :
    ((nextOf (exec .classifyRg (searching 0 0 rY))).map (·.nets.clsRg)) = some .syncMarker ∧
    ((nextOf (exec .classifyF7 (searching 0 0 rY))).map (·.nets.clsF7)) = some .invalid := by
  decide

/-- 41_detector.md R121, its example: from `cnt = 4`, `att = 17` the token `fL` enters CAP_F7. -/
theorem vector_detect_preamble :
    (nextOf (step (searching 4 17 fL))).map (fun t => (t.phase, t.idx, t.cnt, t.att, t.res.valid))
      = some (phaseCapF7, 0#6, 0#3, 0, false) := by decide

/-- V-DT-1 (a run of 3 is not enough), V-DT-6 (saturation) and V-DT-9 (the last attempt times out). -/
theorem vector_detect_search :
    (nextOf (step (searching 3 3 fL))).map (fun t => (t.phase, t.cnt, t.att))
      = some (phaseSearch, 0#3, 4) ∧
    (nextOf (step (searching 7 8 fS))).map (fun t => (t.phase, t.cnt, t.att))
      = some (phaseSearch, 7#3, 9) ∧
    (nextOf (step (searching 0 9999 fL))).map (fun t => (t.phase, t.att, t.res))
      = some (phaseSearch, 0, ⟨true, 0b001#3, 0b00#2, .zero, .zero⟩) := by decide

/-- V-FR-8: in CAP_RG with `idx = 0` the token 1000 gives `raw[0] = 1000` and `idx = 1`. -/
theorem vector_capture_rg :
    (nextOf (step (capturingRg [] 1000))).map (fun t => (t.raw[0], t.idx, t.res.valid))
      = some (1000, 1#6, false) := by decide

/-- V-FR-7: in CAP_F7 with `idx = 37` the token 475 gives `raw[37] = 475` and `idx = 38`. -/
theorem vector_capture_f7 :
    (nextOf (step (capturingF7 (List.replicate 37 fL) 475))).map
      (fun t => (t.raw[37], t.idx, t.res.valid)) = some (475, 38#6, false) := by decide

/-- V-FR-1: `rL, rS, rL, rL, rS, rL, rL, rL` as `D[0..7]` give `byte[0] = 0x48`. -/
theorem vector_pack_rg :
    (packRg .default ([rL, rS, rL, rL, rS, rL, rL, rL] ++ List.replicate 56 rL)).map
      (frameByte · 0) = some 0x48#8 := by decide

/-- PACK_RG on its own packs the frame of V-L1-1, and V-FR-2's SyncMarker rejects. -/
theorem vector_pack_rg_own :
    (nextOf (exec .packRg (lastRg (rgBytes [0x12, 0x34, 0x00, 0x05, 0x03, 0x8A, 0x6E, 0x46])))).map
      (·.nets.packRg) = some (some 0x12340005038A6E46#64) ∧
    packRg .default ((rgBytes [0x12, 0x34, 0x00, 0x05, 0x03, 0x8A, 0x6E, 0x46]).set 20 7500)
      = none := by decide

/-- V-FR-6: `D[0..2] = fS, fL, fL` give `f[0..3] = 0100`; and PACK_F7 on its own on V-L1-2's frame. -/
theorem vector_pack_f7 :
    (packF7 .default ([fS, fL, fL] ++ List.replicate 36 fS)).map (frameBits · 0 3)
      = some [false, true, false, false] ∧
    (nextOf (exec .packF7 (lastF7 (f7Pulses 0x4000FA0016#40)))).map (·.nets.packF7)
      = some (some 0x4000FA0016#40) := by decide

/-- V-CS: the required checksums, and the same byte plus one. -/
theorem vector_checksum :
    [0x0000000000000000#64, 0xFFFFFFFFFFFFFFF9#64, 0x12340005038A6E46#64, 0x1234C00F00C404DD#64,
      0xABCD80FFFFFFFFF4#64, 0x00014000008403C8#64].map
        (fun w => (checksumRg w, checksumRg (w + 1#64))) = List.replicate 6 (true, false) := by
  decide

/-- V-HC-1, V-HC-3 and V-HC-7: the header `0100` and the headers 0000 and 0110. -/
theorem vector_header :
    [0x4000FA0016#40, 0x0000FA00F6#40, 0x6000000000#40].map (headerF7 .default)
      = [true, false, false] := by decide

/-- V-HC: the CRC engine on four bytes (43_integrity.md R166). -/
theorem vector_crc8 :
    [0x00000000#32, 0x00000001#32, 0x80000000#32, 0xFFFFFFFF#32, 0x12345678#32, 0x47FFFFFF#32,
      0x40000000#32, 0x4000FA00#32, 0x4FA80555#32, 0x4307FF2D#32].map
        (fun m => crc8F7 .default (m ++ 0#8))
    = [0x00#8, 0x31#8, 0xF1#8, 0xB1#8, 0x37#8, 0x14#8, 0xE0#8, 0x16#8, 0x6C#8, 0xD4#8] := by decide

/-- The trace of 95_test_vectors.md of the byte 0x40, bit by bit, and R166's nine-byte row. -/
theorem vector_crc_engine :
    (List.range 9).map (fun n => crcBits .default ((byteBits 0x40#8).take n))
      = [0x00#8, 0x00#8, 0x31#8, 0x62#8, 0xC4#8, 0xB9#8, 0x43#8, 0x86#8, 0x3D#8] ∧
    crcBits .default ([0x31#8, 0x32#8, 0x33#8, 0x34#8, 0x35#8, 0x36#8, 0x37#8, 0x38#8,
      0x39#8].flatMap byteBits) = 0xA2#8 := by decide

/-- V-EX, RainGauge: id, rain, temperature and flags of the accepted frames. -/
theorem vector_extract_rg :
    [0x12340005038A6E46#64, 0x0000000000000000#64, 0xFFFFFFFFFFFFFFF9#64, 0x1234C00F00C404DD#64,
      0xABCD80FFFFFFFFF4#64, 0x00014000008403C8#64].map (fun w =>
        let r := extractRg .default w
        ((r.id.toNat, r.rainRaw.toNat, r.rain.toNat), (r.tempRaw.toNat, r.tempNum.toInt),
          (r.lowbat, r.reset)))
    = [((0x1234, 773, 845), (28298, 27078), (false, false)), ((0, 0, 10), (0, -1220), (false, false)),
      ((0xFFFF, 65535, 70788), (65535, 64315), (true, true)),
      ((0x1234, 15, 27), (1220, 0), (true, true)),
      ((0xABCD, 65535, 70788), (65535, 64315), (true, false)),
      ((1, 0, 10), (900, -320), (false, true))] := by
  decide

/-- V-EX, F007TP: id, sign, magnitude, digits and humidity of the accepted frames. -/
theorem vector_extract_f7 :
    [0x4000FA0016#40, 0x4FA805556C#40, 0x4307FF2DD4#40, 0x40000000E0#40].map (fun f =>
        let r := extractF7 .default f
        (r.id.toNat, r.sign, r.mag.toNat, r.int.toNat, r.frac.toNat, r.hum.toNat))
    = [(1, false, 250, 25, 0, 0), (8, true, 5, 0, 5, 85), (4, false, 2047, 204, 7, 45),
      (1, false, 0, 0, 0, 0)] := by decide

/-- The validators and extractors on their own, on V-L1-1's and V-L1-2's packed frames. -/
theorem vector_units_own :
    (nextOf (exec .checksumRg { State.reset with
        nets := { Nets.initial with packRg := some 0x12340005038A6E47#64 } })).map
      (·.nets.checksumRg) = some (some false) ∧
    (nextOf (exec .extractRg { State.reset with
        nets := { Nets.initial with
          packRg := some 0x12340005038A6E46#64, checksumRg := some true } })).map
      (·.nets.extractRg.rain) = some 845#17 ∧
    (nextOf (exec .crc8F7 { State.reset with
        nets := { Nets.initial with packF7 := some 0x4000FA0016#40, headerF7 := some true } })).map
      (·.nets.crc8F7) = some (some 0x16#8) ∧
    (nextOf (exec .extractF7 { State.reset with
        nets := { Nets.initial with
          packF7 := some 0x4FA805556C#40, headerF7 := some true, crc8F7 := some 0x6C#8 } })).map
      (·.nets.extractF7.hum) = some 85#8 := by decide

/-- 44_field_extractor.md R196: after a checked frame, a frame packed anew and not checked is not
extracted, though the last frame passed every check. -/
theorem vector_unchecked_frame_not_extracted :
    (nextOf (exec .packRg { goodRg with
        nets := { Nets.initial with checksumRg := some true } })).map
      (fun t => (t.nets.checksumRg, (nextOf (exec .extractRg t)).map (·.nets.extractRg)))
      = some (none, some .zero) ∧
    (nextOf (exec .packF7 { goodF7 with
        nets := { Nets.initial with headerF7 := some true, crc8F7 := some 0x16#8 } })).map
      (fun t => (t.nets.crc8F7, (nextOf (exec .extractF7 t)).map (·.nets.extractF7)))
      = some (none, some .zero) := by decide

/-- V-L1-1: the last step of the frame emits ACCEPT, RainGauge, with its bytes, and ends the cycle. -/
theorem vector_finish_rg_accepts :
    (nextOf (step (lastRg (rgBytes [0x12, 0x34, 0x00, 0x05, 0x03, 0x8A, 0x6E, 0x46])))).map
      (fun t => ((t.phase, t.idx), (t.res.valid, t.res.status, t.res.proto),
        (t.res.rg.bytes, t.res.rg.id)))
    = some ((phaseSearch, 0#6), (true, 0b000#3, 0b01#2), (0x12340005038A6E46#64, 0x1234#16)) := by decide

/-- V-L1-4 (byte 7 = 0x47) is REJ_CHECKSUM, and V-FR-3 (`D[63]` a timeout) is REJ_PULSE. -/
theorem vector_finish_rg_rejects :
    (nextOf (step (lastRg (rgBytes [0x12, 0x34, 0x00, 0x05, 0x03, 0x8A, 0x6E, 0x47])))).map (·.res)
      = some ⟨true, 0b100#3, 0b01#2, .zero, .zero⟩ ∧
    (nextOf (step (lastRg
      ((rgBytes [0x12, 0x34, 0x00, 0x05, 0x03, 0x8A, 0x6E, 0x46]).set 63 0)))).map (·.res)
      = some ⟨true, 0b010#3, 0b01#2, .zero, .zero⟩ := by decide

/-- V-L1-2: the last step of the frame emits ACCEPT, F007TP, 25.0. -/
theorem vector_finish_f7_accepts :
    (nextOf (step (lastF7 (f7Pulses 0x4000FA0016#40)))).map
      (fun t => (t.phase, t.res.status, t.res.proto, t.res.f7))
    = some (phaseSearch, 0b000#3, 0b10#2,
        ⟨0x4000FA0016#40, 1#4, false, 250#11, 25#8, 0#4, 0#8⟩) := by decide

/-- V-HC-3 is REJ_HEADER although its CRC is right, V-HC-2 is REJ_CRC, V-FR-5 is REJ_PULSE. -/
theorem vector_finish_f7_rejects :
    (nextOf (step (lastF7 (f7Pulses 0x0000FA00F6#40)))).map (·.res)
      = some ⟨true, 0b011#3, 0b10#2, .zero, .zero⟩ ∧
    (nextOf (step (lastF7 (f7Pulses 0x4000FA0017#40)))).map (·.res)
      = some ⟨true, 0b101#3, 0b10#2, .zero, .zero⟩ ∧
    (nextOf (step (lastF7 ((f7Pulses 0x4000FA0016#40).set 10 900)))).map (·.res)
      = some ⟨true, 0b010#3, 0b10#2, .zero, .zero⟩ := by decide

/-- V-DT-15: an idle clock in SEARCH with `att = 5` leaves `att = 5`. -/
theorem vector_hold :
    (nextOf (step (fed [.idle] (searching 2 5 0)))).map (fun t => (t.cnt, t.att))
      = some (2#3, 5) := by decide

/-- 45_cycle.md R203: CYCLE_START clears the counters and unmarks the buffer, its contents kept. -/
theorem vector_cycle_start :
    (nextOf (exec .cycleStart (capturingRg [rS, rL] 0))).map
      (fun t => (t.phase, t.idx, t.raw[1], t.written[1])) = some (phaseSearch, 0#6, rL, false) := by
  decide

/-- V-RS-2: a token on a reset clock is discarded; and V-RS-1's reset abandons a capture. -/
theorem vector_reset :
    (nextOf (step (fed [⟨true, true, 7500⟩] (searching 5 9 0)))).map
      (fun t => (t.phase, t.cnt, t.att, t.port)) = some (phaseSearch, 0#3, 0, .idle) ∧
    (nextOf (step (fed [.resetEdge] (capturingRg [rS, rS] 0)))).map
      (fun t => (t.phase, t.idx, t.written[0], t.res.valid)) = some (phaseSearch, 0#6, false, false) := by
  decide

/-- The stops of 60_exceptions.md R234: illegal phase, index out of range, unwritten entry read. -/
theorem vector_faults :
    faultOf (step (stateAt .default 3#3 0 0 0 [] (.token 0) [])) = some .illegalPhase ∧
    faultOf (step (stateAt .default phaseCapF7 0 0 39 [] (.token 0) [])) = some .indexOutOfRange ∧
    faultOf (step { lastRg [] with phase := phaseCapRg, idx := 63#6 }) = some .unwrittenEntryRead ∧
    refusalOf (step { State.reset with built := { maxAttempts := 5 } }) = some .configChanged := by
  decide

/-- 60_exceptions.md R221: the kind of each outcome, by its status code. -/
theorem vector_outcome_kinds :
    [Token.timeout, .reject .pulse .f007tp, .reject .header .f007tp, .reject .checksum .rainGauge,
      .reject .crc .f007tp, .acceptF7 .zero].map outcomeKind
    = [some .timeout, some .structuralRejection, some .structuralRejection, some .integrityFailure,
      some .integrityFailure, none] := by decide

/-- V-EX: −320 is −17.777… degrees Celsius, and sign 1 with magnitude 5 is −0.5 degrees. -/
theorem vector_temperatures :
    rgCelsius .default { RgFields.zero with tempNum := BitVec.ofInt 17 (-320) } = -160 / 9 ∧
    f7Degrees { F7Fields.zero with sign := true, mag := 5#11 } = -1 / 2 := by
  have h : (BitVec.ofInt 17 (-320)).toInt = -320 := by decide
  constructor
  · simp only [rgCelsius, h, Config.default]
    norm_num
  · norm_num [f7Degrees]

/-! ## Witnesses: for each statement with hypotheses, a state and operands that meet them together, at
a boundary of each clause -/

/-- A configuration with a search of three attempts. -/
def threeAttempts : Config := { maxAttempts := 3 }

/-- An operation asked for on its own. -/
def asking (b : Byte) (s : State) : State := { s with request := some b }

theorem witness_UnassignedIdsAreRefused :
    (0x11 ≤ (0x11#8).toNat ∧ (0x11#8).toNat ≤ 0x1F ∧ ConfigFixed (asking 0x11#8 State.reset) ∧
      (asking 0x11#8 State.reset).request = some 0x11#8) ∧
    (0x11 ≤ (0x1F#8).toNat ∧ (0x1F#8).toNat ≤ 0x1F) ∧
    (0x1F < (0x20#8).toNat ∧ ConfigFixed (asking 0x20#8 State.reset)) := by decide

theorem witness_EdgeSelectsOperationOfMap :
    ((fed [.resetEdge] State.reset).port.rst = true ∧ State.reset.port.inValid = false ∧
      3 ≤ (stateAt .default 3#3 0 0 0 [] (.token 0) []).phase.toNat ∧
      38 < (capturingF7 (List.replicate 39 0) 0).idx.toNat) ∧
    (∀ s ∈ [searching 7 9999 0, capturingRg (List.replicate 62 0) 0, goodRg,
        capturingF7 (List.replicate 37 0) 0, goodF7],
      RegistersInRange s ∧ s.port.rst = false ∧ s.port.inValid = true) ∧
    ((capturingRg (List.replicate 62 0) 0).idx.toNat < 63 ∧ goodRg.idx.toNat = 63 ∧
      (capturingF7 (List.replicate 37 0) 0).idx.toNat < 38 ∧ goodF7.idx.toNat = 38) := by decide

theorem witness_StepRunsFetchedOperation :
    (goodRg.request = none ∧ select goodRg = .ok .finishRg) ∧
    ((asking 0x0F#8 goodRg).request = some 0x0F#8 ∧ decode [0x0F#8] = .ok .cycleStart ∧
      Instr.cycleStart.wellFormed = true) ∧
    (ConfigFixed (capturingF7 (List.replicate 39 0) 0) ∧
      select (capturingF7 (List.replicate 39 0) 0) = .error .indexOutOfRange) :=
  ⟨⟨rfl, rfl⟩, ⟨rfl, rfl, rfl⟩, ⟨rfl, rfl⟩, rfl⟩

theorem witness_PresentedOperationRunsNext :
    decodeTableWord 8 0x00 = some .hold ∧ decodeTableWord 8 0x10 = some .reset := ⟨rfl, rfl⟩

theorem witness_BrokenRegistersFault :
    (∀ s ∈ [stateAt .default 3#3 0 0 0 [] (.token 0) [], stateAt .default 7#3 0 0 0 [] (.token 0) [],
        capturingF7 (List.replicate 39 0) 0, searching 0 10000 0,
        stateAt .default phaseCapRg 1 0 0 [] (.token 0) []],
      ConfigFixed s ∧ s.request = none ∧ s.port.rst = false ∧ s.port.inValid = true ∧
        ¬ RegistersInRange s) ∧
    3 ≤ (3#3).toNat ∧ 38 < (capturingF7 (List.replicate 39 0) 0).idx.toNat := by decide

theorem witness_IllFormedConfigurationIsRefused :
    let s := stateAt { maxAttempts := 0 } phaseSearch 0 0 0 [] .idle []
    s.cfg = s.built ∧ s.cfg.wellFormed = false := by decide

theorem witness_ConfigurationIsReadOnly :
    (nextOf (exec .hold State.reset)).isSome = true ∧ (nextOf (step goodRg)).isSome = true ∧
    { State.reset with cfg := threeAttempts }.cfg ≠ State.reset.built := by decide

theorem witness_well_formed_configurations :
    Config.default.wellFormed = true ∧ threeAttempts.wellFormed = true ∧
    65535 < 2 ^ Config.default.durW ∧ ({ Config.default with crcPoly := 0x01 }).wellFormed = true := by
  decide

theorem witness_ClassifyShowsClassOfToken :
    ConfigFixed (searching 0 0 65535) ∧
    (searching 0 0 65535).port.inDur < 2 ^ (searching 0 0 65535).cfg.durW := by decide

/-- For the statements about DETECT_STEP: its five cases, the fourth at the last attempt but one. -/
theorem witness_DetectStepFollowsItsCases :
    ∀ s ∈ [searching 0 9999 7301, searching 4 9999 fL, searching 3 9999 fL, searching 7 9998 fS,
        searching 0 0 65535],
      ConfigFixed s ∧ TokenEdge s ∧ s.phase = phaseSearch ∧ RegistersInRange s := by decide

theorem witness_SyncMarkerSyncsRegardlessOfHistory :
    ∀ s ∈ [searching 7 9999 7301, searching 0 0 7699],
      LegalRun s ∧ TokenEdge s ∧ s.phase = phaseSearch ∧ s.cfg.rgSyncMin < s.port.inDur ∧
        s.port.inDur < s.cfg.rgSyncMax := by decide

/-- A fresh cycle fed n shorts and a long pulse. -/
def preamble (n : Nat) : State := fed ((List.replicate n fS ++ [fL]).map .token) State.reset

/-- A run of 4 shorts syncs, a run of 3 does not (V-DT-1, V-DT-2). -/
theorem witness_PreambleSyncsAfterSufficientRun :
    (∀ n ∈ [3, 4], LegalRun (preamble n) ∧ AtCycleStart (preamble n) ∧
      Feeds (preamble n) (List.replicate n fS ++ [fL]) []) ∧
    (∀ n ∈ [3, 4], (∀ d ∈ List.replicate n fS,
        clsF7 (preamble n).cfg d = .shortBit ∧ clsRg (preamble n).cfg d ≠ .syncMarker) ∧
      (List.replicate n fS).length + 1 < (preamble n).cfg.maxAttempts) ∧
    (clsF7 .default fL = .longBit ∧ clsRg .default fL ≠ .syncMarker) ∧
    (Config.default.preambleRun < (List.replicate 4 fS).length ∧
      (List.replicate 3 fS).length ≤ Config.default.preambleRun) :=
  ⟨by decide, by decide, by decide, by decide⟩

theorem witness_SearchTimesOutAfterMaxAttempts :
    let ds := [fL, fS, 0]
    let s := stateAt threeAttempts phaseSearch 0 0 0 [] (.token fL) [.token fS, .token 0, .idle]
    LegalRun s ∧ AtCycleStart s ∧ ds.length = s.cfg.maxAttempts ∧ Feeds s ds [.idle] ∧
      neverSyncs s.cfg 0 ds = true := by decide

theorem witness_CaptureRgStoresAnyDuration :
    ∀ s ∈ [capturingRg [] 0, capturingRg (List.replicate 62 rS) 65535],
      ConfigFixed s ∧ TokenEdge s ∧ s.phase = phaseCapRg ∧ s.idx.toNat < 63 ∧ s.cnt = 0#3 ∧
        s.att = 0 := by decide

theorem witness_CaptureF7StoresAnyDuration :
    (∀ s ∈ [capturingF7 [] 0, capturingF7 (List.replicate 37 fS) 65535],
      ConfigFixed s ∧ TokenEdge s ∧ s.phase = phaseCapF7 ∧ s.idx.toNat < 38 ∧ s.cnt = 0#3 ∧
        s.att = 0) ∧
    39 ≤ (39 : Fin 64).val := by decide

theorem witness_PackRgGivesClassBitsOrRejects :
    let good := rgBytes [0x12, 0x34, 0x00, 0x05, 0x03, 0x8A, 0x6E, 0x46]
    (good.length = 64 ∧ ∀ d ∈ good, clsRg .default d = .shortBit ∨ clsRg .default d = .longBit) ∧
    ((good.set 63 rY).length = 64 ∧
      ∃ d ∈ good.set 63 rY, clsRg .default d ≠ .shortBit ∧ clsRg .default d ≠ .longBit) := by decide

theorem witness_PackF7GivesClassBitsOrRejects :
    let good := f7Pulses 0x4000FA0016#40
    (good.length = 39 ∧ ∀ d ∈ good, clsF7 .default d ≠ .invalid) ∧
    ((good.set 38 0).length = 39 ∧ ∃ d ∈ good.set 38 0, clsF7 .default d = .invalid) := by decide

theorem witness_PackShowsCapturedFrame :
    (ConfigFixed goodRg ∧ goodRg.port.inDur < 2 ^ goodRg.cfg.durW ∧
      ∀ i : Fin 64, i.val < 63 → goodRg.written[i] = true) ∧
    (ConfigFixed goodF7 ∧ goodF7.port.inDur < 2 ^ goodF7.cfg.durW ∧
      ∀ i : Fin 64, i.val < 38 → goodF7.written[i] = true) := by decide

theorem witness_SerialPackerIsParallelPacker :
    (List.replicate 64 rS).length = 64 ∧ (List.replicate 39 fL).length = 39 := by decide

theorem witness_FrameSliceIsPositionalSum : 0 ≤ 39 ∧ 39 < 40 := by decide

theorem witness_BytesPackMostSignificantBitFirst : 7 < 8 ∧ 0 < 8 := by decide

/-- 43_integrity.md R161(d), its frame; and a single-bit change at both ends. -/
theorem witness_ChecksumDetectsSingleBitErrors :
    checksumRg 0x0001000000000001#64 = true ∧ 0 < 64 ∧ 63 < 64 ∧
    (frameByte 0x0001000000000001#64 0).getLsbD 0 = false ∧
    (frameByte 0x0001000000000001#64 1).getLsbD 0 = true := by decide

/-- The register of 43_integrity.md R163, step by step. -/
def crcRegister (c : Config) (f : BitVec 40) : Nat → Nat
  | 0 => c.crcInit
  | i + 1 =>
    if (crcRegister c f i / 128 + (frameBit f i).toNat) % 2 = 1 then
      (2 * crcRegister c f i % 256) ^^^ c.crcPoly
    else 2 * crcRegister c f i % 256

theorem witness_CrcFollowsItsRegister :
    let r := crcRegister .default 0x4000FA0016#40
    Config.default.wellFormed = true ∧ r 0 = Config.default.crcInit ∧
    ∀ i < 32, r (i + 1) =
      if (r i / 128 + (frameBit 0x4000FA0016#40 i).toNat) % 2 = 1 then
        (2 * r i % 256) ^^^ Config.default.crcPoly
      else 2 * r i % 256 := ⟨by decide, rfl, fun _ _ => rfl⟩

theorem witness_CrcDetectsSingleBitErrors :
    Config.default.wellFormed = true ∧ Config.default.crcPoly ≠ 0 ∧
    headerF7 .default 0x4000FA0016#40 = true ∧
    crcMatches (crc8F7 .default 0x4000FA0016#40) 0x4000FA0016#40 = true ∧
    ∀ j ∈ [1, 3, 4, 39], 1 ≤ j ∧ j ≤ 39 := by decide

/-- The nets after the units of an accepted F007TP frame, and the nets after a rejection. -/
theorem witness_UnitsShowTheirAnswers :
    let shown := { Nets.initial with
      packF7 := some 0x4000FA0016#40, headerF7 := some true, crc8F7 := some 0x16#8 }
    ConfigFixed { State.reset with nets := shown } ∧ shown.packF7 = some 0x4000FA0016#40 ∧
      shown.headerF7 = some true ∧ shown.crc8F7 = some 0x16#8 ∧ Nets.initial.packF7 = none := by
  decide

theorem witness_HoldOnlyClearsOutputs :
    ConfigFixed (fed [.idle] goodRg) ∧ (fed [.idle] goodRg).port.rst = false ∧
    (fed [.idle] goodRg).port.inValid = false := by decide

theorem witness_IdleClocksChangeNothing :
    ∀ s ∈ [State.reset, fed [.idle, ⟨false, false, 65535⟩] goodRg],
      LegalRun s ∧ ∀ p ∈ s.port :: s.pending, p.rst = false ∧ p.inValid = false := by decide

theorem witness_CycleStartPreparesNextCycle : ConfigFixed goodRg := by decide

/-- An accepted frame, a wrong checksum, and a SyncMarker in the frame. -/
theorem witness_FinishRgEmitsFrameOutcome :
    ∀ s ∈ [goodRg, lastRg (rgBytes [0x12, 0x34, 0x00, 0x05, 0x03, 0x8A, 0x6E, 0x47]),
        lastRg ((rgBytes [0x12, 0x34, 0x00, 0x05, 0x03, 0x8A, 0x6E, 0x46]).set 20 rY)],
      ConfigFixed s ∧ TokenEdge s ∧ s.phase = phaseCapRg ∧ s.idx.toNat = 63 ∧ s.cnt = 0#3 ∧
        s.att = 0 ∧ ∀ i : Fin 64, i.val < 63 → s.written[i] = true := by decide

/-- The clauses of FinishRgEmitsFrameOutcome, each met by one of those frames. -/
theorem witness_FinishRgEmitsFrameOutcome_clauses :
    (packRg .default (rgBytes [0x12, 0x34, 0x00, 0x05, 0x03, 0x8A, 0x6E, 0x46])
      = some 0x12340005038A6E46#64 ∧ checksumRg 0x12340005038A6E46#64 = true) ∧
    (packRg .default (rgBytes [0x12, 0x34, 0x00, 0x05, 0x03, 0x8A, 0x6E, 0x47])
      = some 0x12340005038A6E47#64 ∧ checksumRg 0x12340005038A6E47#64 = false) ∧
    packRg .default ((rgBytes [0x12, 0x34, 0x00, 0x05, 0x03, 0x8A, 0x6E, 0x46]).set 20 rY)
      = none := by decide

/-- An accepted frame, a wrong header, a wrong CRC, and an Invalid duration in the frame. -/
theorem witness_FinishF7EmitsFrameOutcome :
    ∀ s ∈ [goodF7, lastF7 (f7Pulses 0x0000FA00F6#40), lastF7 (f7Pulses 0x4000FA0017#40),
        lastF7 ((f7Pulses 0x4000FA0016#40).set 10 900)],
      ConfigFixed s ∧ TokenEdge s ∧ s.phase = phaseCapF7 ∧ s.idx.toNat = 38 ∧ s.cnt = 0#3 ∧
        s.att = 0 ∧ ∀ i : Fin 64, i.val < 38 → s.written[i] = true := by decide

/-- The clauses of FinishF7EmitsFrameOutcome, each met by one of those frames. -/
theorem witness_FinishF7EmitsFrameOutcome_clauses :
    (packF7 .default (f7Pulses 0x4000FA0016#40) = some 0x4000FA0016#40 ∧
      headerF7 .default 0x4000FA0016#40 = true ∧
      (crc8F7 .default 0x4000FA0016#40).toNat = val 0x4000FA0016#40 32 39) ∧
    (packF7 .default (f7Pulses 0x0000FA00F6#40) = some 0x0000FA00F6#40 ∧
      headerF7 .default 0x0000FA00F6#40 = false) ∧
    (packF7 .default (f7Pulses 0x4000FA0017#40) = some 0x4000FA0017#40 ∧
      headerF7 .default 0x4000FA0017#40 = true ∧
      (crc8F7 .default 0x4000FA0017#40).toNat ≠ val 0x4000FA0017#40 32 39) ∧
    packF7 .default ((f7Pulses 0x4000FA0016#40).set 10 900) = none := by decide

/-- Each side of the statement on emission: a timeout, the last pulse of either frame, and an edge
that emits nothing. -/
theorem witness_TokenIsEmittedExactlyAtCycleEnd :
    (∀ s ∈ [searching 0 9999 fL, searching 0 9998 fL, goodRg, goodF7], LegalRun s) ∧
    neverSyncs .default 0 [fL] = true := by decide

theorem witness_ResetClearsEverything :
    ∀ s ∈ [fed [⟨true, true, 7500⟩] goodRg,
        fed [.resetEdge] (stateAt .default 7#3 7 10000 39 [] .idle [])],
      ConfigFixed s ∧ s.port.rst = true ∧ s.request = none := by decide

/-- A second reset edge: the next state's port asks for it. -/
theorem witness_ResetRecoversAndIsIdempotent :
    (nextOf (step (fed [.resetEdge, .resetEdge] goodRg))).map (·.port.rst) = some true := by decide

theorem witness_ResetMeetsInvariant :
    ∀ p ∈ [PortIn.token 65535, .resetEdge, .idle], p.inDur < 2 ^ 16 := by decide

/-- What the units show of the frame of V-L1-2, every one evaluated, and of V-L1-1 but for its fields. -/
theorem witness_EveryStepKeepsInvariant_nets :
    NetsFollowFrame { goodF7 with nets := { Nets.initial with
      packRg := some 0x12340005038A6E46#64, checksumRg := some true, packF7 := some 0x4000FA0016#40,
      headerF7 := some true, crc8F7 := some 0x16#8,
      extractF7 := extractF7 .default 0x4000FA0016#40 } } ∧
    (nextOf (step goodF7)).isSome = true ∧ (nextOf (exec .extractRg goodF7)).isSome = true := by
  decide

/-- For EveryStepKeepsInvariant and StepOperationsConsumeOneEdge. -/
theorem witness_EveryStepKeepsInvariant :
    Inv goodRg ∧ isStepOp .finishRg = true ∧ (nextOf (step goodRg)).isSome = true ∧
    (nextOf (exec .finishRg goodRg)).isSome = true := by decide

theorem witness_RunsNeverStop : LegalRun (fed [.token 65535, .resetEdge] State.reset) := by decide

theorem witness_CombinationalUnitsWriteNoRegister :
    (nextOf (exec .packRg goodRg)).isSome = true ∧ (nextOf (exec .crc8F7 goodF7)).isSome = true := by
  decide

theorem witness_StepsDoNotReadOutputs :
    let t := { goodRg with
      res := tokenRegs .timeout, nets := { Nets.initial with clsRg := .syncMarker } }
    goodRg.request = none ∧ t = { goodRg with res := t.res, nets := t.nets } ∧
      (nextOf (step goodRg)).isSome = true := by decide

/-- A capture of one pulse, whose buffer elsewhere still holds an earlier cycle's durations. -/
theorem witness_UnwrittenEntriesHaveNoEffect :
    AgreeOnWritten (capturingRg [rS] rL)
      { capturingRg [rS] rL with raw := buffer (rS :: List.replicate 63 rY) } ∧
    (nextOf (step (capturingRg [rS] rL))).isSome = true := by decide

theorem witness_RainGaugeFrameTakesSixtyFourTokens :
    let ds := rgBytes [0x12, 0x34, 0x00, 0x05, 0x03, 0x8A, 0x6E, 0x46]
    let s := fed (ds.map .token ++ [.idle]) (capturingRg [] 0)
    LegalRun s ∧ s.phase = phaseCapRg ∧ s.idx = 0#6 ∧ ds.length = 64 ∧ Feeds s ds [.idle] := by
  decide

theorem witness_F007TPFrameTakesThirtyNineTokens :
    let ds := f7Pulses 0x4000FA0016#40
    let s := fed (ds.map .token ++ [.idle]) (capturingF7 [] 0)
    LegalRun s ∧ s.phase = phaseCapF7 ∧ s.idx = 0#6 ∧ ds.length = 39 ∧ Feeds s ds [.idle] := by
  decide

/-- V-L1-1's input stream from reset. -/
theorem witness_RainGaugeFrameRoundTrip :
    let ds := rgFrame [0x12, 0x34, 0x00, 0x05, 0x03, 0x8A, 0x6E]
    let s := fed (ds.map .token) State.reset
    LegalRun s ∧ s.cfg = Config.default ∧ AtCycleStart s ∧ Feeds s ds [] := by decide

/-- V-L1-2's input stream from reset, and the largest id, magnitude and humidity. -/
theorem witness_F007TPFrameRoundTrip :
    ∀ x ∈ [(0, false, 250, 0), (7, true, 2047, 255)],
      let ds := f7Frame 4 x.1 x.2.1 x.2.2.1 x.2.2.2
      let s := fed (ds.map .token) State.reset
      LegalRun s ∧ s.cfg = Config.default ∧ AtCycleStart s ∧ 4 ≤ 4 ∧ 4 < 10000 ∧ x.1 < 8 ∧
        x.2.2.1 < 2048 ∧ x.2.2.2 < 256 ∧ Feeds s ds [] := by decide

/-- The last entry that the finish operation reads counts as unwritten. -/
theorem witness_UnwrittenEntryReadFaults :
    (let s := { goodRg with written := writtenBelow 62 };
      ConfigFixed s ∧ TokenEdge s ∧ s.cnt = 0#3 ∧ s.att = 0 ∧ s.phase = phaseCapRg ∧
        s.idx.toNat = 63 ∧ ∃ i : Fin 64, i.val < 63 ∧ s.written[i] = false) ∧
    (let s := { goodF7 with written := writtenBelow 37 };
      ConfigFixed s ∧ TokenEdge s ∧ s.cnt = 0#3 ∧ s.att = 0 ∧ s.phase = phaseCapF7 ∧
        s.idx.toNat = 38 ∧ ∃ i : Fin 64, i.val < 38 ∧ s.written[i] = false) := by decide

theorem witness_OutsideTheMachineIsRefused :
    (ConfigFixed goodRg ∧ isStepOp .hold = true ∧ select goodRg = .ok .finishRg ∧
      Instr.finishRg ≠ .hold) ∧
    (ConfigFixed (searching 0 0 65536) ∧
      2 ^ (searching 0 0 65536).cfg.durW ≤ (searching 0 0 65536).port.inDur ∧
      select (searching 0 0 65536) = .ok .detectStep) :=
  ⟨⟨by decide, rfl, rfl, by decide⟩, ⟨by decide, by decide, rfl⟩⟩

end Sys2Proof.Tests
end

section
/-! What 00_scope.md says: the reading of each check of R8 and of the slices of R11, said once, and the
statements about them settled. -/

namespace Sys2Proof

/-! ## The windows of R8 and R12 -/

section Windows

variable {d min max min₁ max₁ min₂ max₂ : Nat}

/-- `in(d, MIN, MAX)` of R12: both bounds are outside. -/
@[simp] theorem inWindow_eq_true_iff : inWindow d min max = true ↔ min < d ∧ d < max := by
  simp only [inWindow, Bool.and_eq_true, decide_eq_true_eq]

@[simp] theorem inWindow_eq_false_iff : inWindow d min max = false ↔ ¬ (min < d ∧ d < max) := by
  rw [← inWindow_eq_true_iff, Bool.not_eq_true]

theorem openDisjoint_iff :
    openDisjoint min₁ max₁ min₂ max₂ = true ↔ max₁ ≤ min₂ ∨ max₂ ≤ min₁ := by
  simp only [openDisjoint, Bool.or_eq_true, decide_eq_true_eq]

/-- Two windows, neither of them empty, are disjoint as open intervals of rationals exactly when one
ends where the other begins or before it (log 3). -/
theorem openDisjoint_iff_no_common_rat (h₁ : min₁ < max₁) (h₂ : min₂ < max₂) :
    openDisjoint min₁ max₁ min₂ max₂ = true ↔
      ∀ x : ℚ, ¬ ((min₁ < x ∧ x < max₁) ∧ (min₂ < x ∧ x < max₂)) := by
  have hset : Disjoint (Set.Ioo (min₁ : ℚ) max₁) (Set.Ioo (min₂ : ℚ) max₂) ↔
      ∀ x : ℚ, ¬ ((min₁ < x ∧ x < max₁) ∧ (min₂ < x ∧ x < max₂)) := by
    simp only [Set.disjoint_left, Set.mem_Ioo, not_and]
  rw [← hset, Set.Ioo_disjoint_Ioo, openDisjoint_iff]
  simp only [min_le_iff, le_max_iff, Nat.cast_le]
  omega

end Windows

namespace Config

/-! ## The checks (a) to (l) of R8 -/

variable {c : Config}

theorem windowsOpen_iff : c.windowsOpen = true ↔
    c.rgShortMin < c.rgShortMax ∧ c.rgLongMin < c.rgLongMax ∧ c.rgSyncMin < c.rgSyncMax ∧
      c.f7ShortMin < c.f7ShortMax ∧ c.f7LongMin < c.f7LongMax := by
  simp only [windowsOpen, Bool.and_eq_true, decide_eq_true_eq, and_assoc]

theorem maximaFit_iff : c.maximaFit = true ↔
    ∀ m ∈ [c.rgShortMax, c.rgLongMax, c.rgSyncMax, c.f7ShortMax, c.f7LongMax],
      m ≤ 2 ^ c.durW - 1 := by
  simp only [maximaFit, Bool.and_eq_true, decide_eq_true_eq, and_assoc, List.forall_mem_cons,
    List.not_mem_nil, false_imp_iff, forall_const, and_true]

/-- R8(c) and (d), read over the rationals (log 3): for windows that are not empty. -/
theorem windowsDisjoint_iff (ha : c.windowsOpen = true) :
    (c.rgDisjoint = true ∧ c.f7Disjoint = true) ↔
      ∀ x : ℚ,
        ¬ ((c.rgShortMin < x ∧ x < c.rgShortMax) ∧ (c.rgLongMin < x ∧ x < c.rgLongMax)) ∧
        ¬ ((c.rgShortMin < x ∧ x < c.rgShortMax) ∧ (c.rgSyncMin < x ∧ x < c.rgSyncMax)) ∧
        ¬ ((c.rgLongMin < x ∧ x < c.rgLongMax) ∧ (c.rgSyncMin < x ∧ x < c.rgSyncMax)) ∧
        ¬ ((c.f7ShortMin < x ∧ x < c.f7ShortMax) ∧ (c.f7LongMin < x ∧ x < c.f7LongMax)) := by
  obtain ⟨hrs, hrl, hry, hfs, hfl⟩ := windowsOpen_iff.1 ha
  simp only [rgDisjoint, f7Disjoint, Bool.and_eq_true, openDisjoint_iff_no_common_rat hrs hrl,
    openDisjoint_iff_no_common_rat hrs hry, openDisjoint_iff_no_common_rat hrl hry,
    openDisjoint_iff_no_common_rat hfs hfl, forall_and, and_assoc]

theorem sentinelOutside_iff : c.sentinelOutside = true ↔
    ∀ w ∈ [(c.rgShortMin, c.rgShortMax), (c.rgLongMin, c.rgLongMax), (c.rgSyncMin, c.rgSyncMax),
        (c.f7ShortMin, c.f7ShortMax), (c.f7LongMin, c.f7LongMax)],
      ¬ (w.1 < c.sentinel ∧ c.sentinel < w.2) := by
  simp only [sentinelOutside, Bool.and_eq_true, Bool.not_eq_true', inWindow_eq_false_iff, and_assoc,
    List.forall_mem_cons, List.not_mem_nil, false_imp_iff, forall_const, and_true]

theorem attemptsFit_iff :
    c.attemptsFit = true ↔ 1 ≤ c.maxAttempts ∧ c.maxAttempts ≤ 2 ^ c.attW - 1 := by
  simp only [attemptsFit, Bool.and_eq_true, decide_eq_true_eq]

theorem runFits_iff :
    c.runFits = true ↔ c.preambleRun + 1 ≤ c.cntMax ∧ c.cntMax ≤ 2 ^ 3 - 1 := by
  simp only [runFits, Bool.and_eq_true, decide_eq_true_eq]

theorem divisorsPositive_iff :
    c.divisorsPositive = true ↔ 1 ≤ c.rgRainDen ∧ 1 ≤ c.rgTempDiv := by
  simp only [divisorsPositive, Bool.and_eq_true, decide_eq_true_eq]

theorem crcFits_iff : c.crcFits = true ↔ c.crcInit < 2 ^ 8 ∧ c.crcPoly < 2 ^ 8 := by
  simp only [crcFits, Bool.and_eq_true, decide_eq_true_eq]

theorem tempFits_iff : c.tempFits = true ↔ c.rgTempOffset + c.rgTempF0 ≤ 2 ^ 16 := by
  simp only [tempFits, decide_eq_true_eq]

theorem rainFits_iff : c.rainFits = true ↔
    ((2 ^ 16 - 1) + c.rgRainOffset) * c.rgRainNum / c.rgRainDen ≤ 2 ^ 17 - 1 := by
  simp only [rainFits, decide_eq_true_eq]

theorem idFits_iff : c.idFits = true ↔ c.f7IdBias ≤ 8 := by
  simp only [idFits, decide_eq_true_eq]

/-- R8: well-formed is every check passed, (c) and (d) taken together. -/
theorem wellFormed_iff_checks : c.wellFormed = true ↔
    c.windowsOpen = true ∧ c.maximaFit = true ∧ (c.rgDisjoint = true ∧ c.f7Disjoint = true) ∧
      c.sentinelOutside = true ∧ c.attemptsFit = true ∧ c.runFits = true ∧
      c.divisorsPositive = true ∧ c.crcFits = true ∧ c.tempFits = true ∧ c.rainFits = true ∧
      c.idFits = true := by
  simp only [wellFormed, Bool.and_eq_true, and_assoc]

end Config

namespace Machine

/-- Settles O8. A window that is empty fails (a), so (c) and (d) are compared under (a) alone. -/
theorem configurationCheckIsTheSpecs : Obligations.ConfigurationCheckIsTheSpecs := by
  unfold Obligations.ConfigurationCheckIsTheSpecs
  refine ⟨fun c => ?_, by decide⟩
  rw [Config.wellFormed_iff_checks, ← Config.windowsOpen_iff, Config.maximaFit_iff,
    Config.sentinelOutside_iff, Config.attemptsFit_iff, Config.runFits_iff,
    Config.divisorsPositive_iff, Config.crcFits_iff, Config.tempFits_iff, Config.rainFits_iff,
    Config.idFits_iff]
  exact and_congr_right fun ha =>
    and_congr_right fun _ => and_congr_left fun _ => Config.windowsDisjoint_iff ha

/-! ## The slices of R11 -/

section Slices

variable {n a b : Nat} (f : BitVec n)

theorem bitsValue_append_singleton (bits : List Bool) (bit : Bool) :
    bitsValue (bits ++ [bit]) = 2 * bitsValue bits + bit.toNat := by
  simp only [bitsValue, List.foldl_append, List.foldl_cons, List.foldl_nil]

/-- A slice one bit longer has that bit last. -/
theorem frameBits_succ (h : a ≤ b + 1) :
    frameBits f a (b + 1) = frameBits f a b ++ [frameBit f (b + 1)] := by
  have hlen : b + 1 + 1 - a = b + 1 - a + 1 := by omega
  have hlast : a + (b + 1 - a) = b + 1 := by omega
  simp only [frameBits, hlen, List.range'_1_concat, hlast, List.map_append, List.map_cons,
    List.map_nil]

/-- One more bit doubles the value and comes in as the least significant. -/
theorem val_succ (h : a ≤ b + 1) :
    val f a (b + 1) = 2 * val f a b + (frameBit f (b + 1)).toNat := by
  simp only [val, frameBits_succ f h, bitsValue_append_singleton]

theorem val_self : val f a a = (frameBit f a).toNat := by
  simp [val, frameBits, bitsValue]

/-- R11's sum, by induction on the slice's last index; it needs no bound on that index. -/
theorem val_eq_sum (h : a ≤ b) :
    val f a b = ∑ i ∈ Finset.Icc a b, (frameBit f i).toNat * 2 ^ (b - i) := by
  induction b, h using Nat.le_induction with
  | base => simp [val_self]
  | succ b hab ih =>
    have hdouble : ∀ i ∈ Finset.Icc a b,
        (frameBit f i).toNat * 2 ^ (b + 1 - i) = 2 * ((frameBit f i).toNat * 2 ^ (b - i)) := by
      intro i hi
      rw [Nat.succ_sub (Finset.mem_Icc.1 hi).2, pow_succ]
      ring
    calc val f a (b + 1)
        = 2 * val f a b + (frameBit f (b + 1)).toNat := val_succ f (by omega)
      _ = ∑ i ∈ Finset.Icc a b, (frameBit f i).toNat * 2 ^ (b + 1 - i)
            + (frameBit f (b + 1)).toNat := by
          rw [Finset.sum_congr rfl hdouble, ← Finset.mul_sum, ← ih]
      _ = ∑ i ∈ Finset.Icc a (b + 1), (frameBit f i).toNat * 2 ^ (b + 1 - i) := by
          simp [Finset.sum_Icc_succ_top (Nat.le_succ_of_le hab)]

end Slices

/-- Settles O26. -/
theorem frameSliceIsPositionalSum : Obligations.FrameSliceIsPositionalSum := by
  unfold Obligations.FrameSliceIsPositionalSum
  intro n f a b hab _
  exact val_eq_sum f hab

/-! ## The refusal of R8 -/

/-- Every operation, of either kind, answers through the check of the configuration. -/
theorem exec_eq_withConfig (i : Instr) (s : State) : ∃ answer, exec i s = withConfig s answer := by
  cases i <;> exact ⟨_, rfl⟩

/-- So does the step, whether the fetch gives it an operation or a stop. -/
theorem step_eq_withConfig (s : State) : ∃ answer, step s = withConfig s answer := by
  unfold step
  cases fetch s with
  | op i => exact exec_eq_withConfig i s
  | fault f => exact ⟨_, rfl⟩
  | refused r => exact ⟨_, rfl⟩

/-- Settles O9. -/
theorem illFormedConfigurationIsRefused : Obligations.IllFormedConfigurationIsRefused := by
  unfold Obligations.IllFormedConfigurationIsRefused
  intro s hbuilt hill
  constructor
  · obtain ⟨answer, hstep⟩ := step_eq_withConfig s
    rw [hstep, withConfig_of_illFormed hbuilt hill]
  · intro i
    obtain ⟨answer, hexec⟩ := exec_eq_withConfig i s
    rw [hexec, withConfig_of_illFormed hbuilt hill]

end Machine

end Sys2Proof
end

section
/-! What a next state of the core can be, said once for all operations: a list of the effects an
operation can have on the state, shorter than the list of operations. Invariants are proved over it. -/

namespace Sys2Proof.Machine

variable {s t : State} {i : Instr}

/-! ## Which registers select a token's operation (30_encoding.md R82) -/

theorem tokenOp_eq_detectStep_iff : tokenOp s = .detectStep ↔ s.phase = phaseSearch := by
  unfold tokenOp
  split_ifs <;> simp_all

theorem tokenOp_eq_captureRg_iff :
    tokenOp s = .captureRg ↔ s.phase = phaseCapRg ∧ s.idx.toNat < 63 := by
  unfold tokenOp
  split_ifs <;> simp_all

theorem tokenOp_eq_captureF7_iff :
    tokenOp s = .captureF7 ↔ s.phase ≠ phaseSearch ∧ s.phase ≠ phaseCapRg ∧ s.idx.toNat < 38 := by
  unfold tokenOp
  split_ifs <;> simp_all

theorem tokenOp_eq_finishRg_iff :
    tokenOp s = .finishRg ↔ s.phase = phaseCapRg ∧ 63 ≤ s.idx.toNat := by
  unfold tokenOp
  split_ifs <;> simp_all

theorem tokenOp_eq_finishF7_iff :
    tokenOp s = .finishF7 ↔ s.phase ≠ phaseSearch ∧ s.phase ≠ phaseCapRg ∧ 38 ≤ s.idx.toNat := by
  unfold tokenOp
  split_ifs <;> simp_all

/-- Whatever an edge selects besides RESET and HOLD, it selects for its token, with the registers in
range. -/
theorem registersInRange_of_select (h : select s = .ok i) (hreset : i ≠ .reset)
    (hhold : i ≠ .hold) :
    RegistersInRange s ∧ tokenOp s = i := by
  obtain ⟨_, hi⟩ | ⟨_, _, hi⟩ | ⟨_, _, hrange, hi⟩ := select_eq_ok_iff.1 h
  · exact absurd hi hreset
  · exact absurd hi hhold
  · exact ⟨hrange, hi.symm⟩

theorem phase_of_select_detectStep (h : select s = .ok .detectStep) : s.phase = phaseSearch :=
  tokenOp_eq_detectStep_iff.1 (registersInRange_of_select h nofun nofun).2

theorem phase_idx_of_select_captureRg (h : select s = .ok .captureRg) :
    s.phase = phaseCapRg ∧ s.idx.toNat < 63 :=
  tokenOp_eq_captureRg_iff.1 (registersInRange_of_select h nofun nofun).2

theorem phase_idx_of_select_captureF7 (h : select s = .ok .captureF7) :
    s.phase = phaseCapF7 ∧ s.idx.toNat < 38 := by
  obtain ⟨hrange, hop⟩ := registersInRange_of_select h nofun nofun
  obtain ⟨hsearch, hcapRg, hidx⟩ := tokenOp_eq_captureF7_iff.1 hop
  obtain ⟨hphase, -⟩ | ⟨hphase, -⟩ | ⟨hphase, -⟩ := hrange
  · exact absurd hphase hsearch
  · exact absurd hphase hcapRg
  · exact ⟨hphase, hidx⟩

/-! ## The effects of the operations -/

/-- The nets after one of the nine units was evaluated on its own. -/
inductive UnitShows (s : State) : Nets → Prop
  | classifyRg : UnitShows s { s.nets with clsRg := clsRg s.cfg s.port.inDur }
  | classifyF7 : UnitShows s { s.nets with clsF7 := clsF7 s.cfg s.port.inDur }
  | packRg (answer : Option (BitVec 64)) : UnitShows s (s.nets.showPackRg answer)
  | packF7 (answer : Option (BitVec 40)) : UnitShows s (s.nets.showPackF7 answer)
  | checksumRg : UnitShows s { s.nets with checksumRg := s.nets.packRg.map checksumRg }
  | headerF7 : UnitShows s { s.nets with headerF7 := s.nets.packF7.map (headerF7 s.cfg) }
  | crc8F7 : UnitShows s { s.nets with crc8F7 := shownCrc8F7 s.cfg s.nets }
  | extractRg : UnitShows s { s.nets with extractRg := shownRgFields s.cfg s.nets }
  | extractF7 : UnitShows s { s.nets with extractF7 := shownF7Fields s.cfg s.nets }

/-- What an operation's next state can be. DETECT_STEP has three effects, and the two captures have
one. -/
inductive StepEffect (s : State) : State → Prop
  | unit {nets : Nets} (hshows : UnitShows s nets) : StepEffect s (s.showNets nets).takeRequest
  | cycleStart : StepEffect s s.startCycle.takeRequest
  | hold : StepEffect s s.clearResult.nextEdge
  | reset : StepEffect s s.resetRegisters.nextEdge
  | sync {phase : BitVec 3} (hsearch : s.phase = phaseSearch)
      (hphase : phase = phaseCapRg ∨ phase = phaseCapF7) :
      StepEffect s (s.enterCapture phase).clearResult.nextEdge
  | timeout : StepEffect s (s.endCycle .timeout).nextEdge
  | count (cls : PulseClass) (hsearch : s.phase = phaseSearch)
      (hatt : s.att + 1 ≠ s.cfg.maxAttempts) :
      StepEffect s (s.countAttempt (nextRun cls s.cnt.toNat s.cfg.cntMax)).clearResult.nextEdge
  | capture (hfits : s.port.inDur < 2 ^ s.cfg.durW)
      (hidx : s.phase = phaseCapRg ∧ s.idx.toNat < 63 ∨ s.phase = phaseCapF7 ∧ s.idx.toNat < 38) :
      StepEffect s (s.capture s.port.inDur).clearResult.nextEdge
  | finishRg (ds : List Nat) :
      StepEffect s ((s.writeRaw s.port.inDur).endCycle (finishRgToken s.cfg ds)).nextEdge
  | finishF7 (ds : List Nat) :
      StepEffect s ((s.writeRaw s.port.inDur).endCycle (finishF7Token s.cfg ds)).nextEdge

/-- The search step's cases Y and P, T, and S or Z (41_detector.md R121). -/
theorem stepEffect_detect (hsearch : s.phase = phaseSearch) (d : Nat) :
    StepEffect s (detect s d).nextEdge := by
  unfold detect
  split_ifs with hY hP hT
  · exact .sync hsearch (.inl rfl)
  · exact .sync hsearch (.inr rfl)
  · exact .timeout
  · exact .count _ hsearch hT

/-- Every operation that answers a next state has one of the effects, under a fixed configuration. -/
theorem stepEffect_of_exec (h : exec i s = .next t) : ConfigFixed s ∧ StepEffect s t := by
  cases i with
  | hold =>
    obtain ⟨hc, -, rfl⟩ := exec_hold_eq_next_iff.1 h
    exact ⟨hc, .hold⟩
  | reset =>
    obtain ⟨hc, -, rfl⟩ := exec_reset_eq_next_iff.1 h
    exact ⟨hc, .reset⟩
  | cycleStart =>
    obtain ⟨hc, rfl⟩ := exec_cycleStart_eq_next_iff.1 h
    exact ⟨hc, .cycleStart⟩
  | detectStep =>
    obtain ⟨hc, hs, -, rfl⟩ := exec_detectStep_eq_next_iff.1 h
    exact ⟨hc, stepEffect_detect (phase_of_select_detectStep hs) _⟩
  | captureRg =>
    obtain ⟨hc, hs, hfits, rfl⟩ := exec_captureRg_eq_next_iff.1 h
    exact ⟨hc, .capture hfits (.inl (phase_idx_of_select_captureRg hs))⟩
  | captureF7 =>
    obtain ⟨hc, hs, hfits, rfl⟩ := exec_captureF7_eq_next_iff.1 h
    exact ⟨hc, .capture hfits (.inr (phase_idx_of_select_captureF7 hs))⟩
  | finishRg =>
    obtain ⟨hc, -, -, -, rfl⟩ := exec_finishRg_eq_next_iff.1 h
    exact ⟨hc, .finishRg _⟩
  | finishF7 =>
    obtain ⟨hc, -, -, -, rfl⟩ := exec_finishF7_eq_next_iff.1 h
    exact ⟨hc, .finishF7 _⟩
  | classifyRg =>
    obtain ⟨hc, -, rfl⟩ := exec_classifyRg_eq_next_iff.1 h
    exact ⟨hc, .unit .classifyRg⟩
  | classifyF7 =>
    obtain ⟨hc, -, rfl⟩ := exec_classifyF7_eq_next_iff.1 h
    exact ⟨hc, .unit .classifyF7⟩
  | packRg =>
    obtain ⟨hc, -, -, rfl⟩ := exec_packRg_eq_next_iff.1 h
    exact ⟨hc, .unit (.packRg _)⟩
  | packF7 =>
    obtain ⟨hc, -, -, rfl⟩ := exec_packF7_eq_next_iff.1 h
    exact ⟨hc, .unit (.packF7 _)⟩
  | checksumRg =>
    obtain ⟨hc, rfl⟩ := exec_checksumRg_eq_next_iff.1 h
    exact ⟨hc, .unit .checksumRg⟩
  | headerF7 =>
    obtain ⟨hc, rfl⟩ := exec_headerF7_eq_next_iff.1 h
    exact ⟨hc, .unit .headerF7⟩
  | crc8F7 =>
    obtain ⟨hc, rfl⟩ := exec_crc8F7_eq_next_iff.1 h
    exact ⟨hc, .unit .crc8F7⟩
  | extractRg =>
    obtain ⟨hc, rfl⟩ := exec_extractRg_eq_next_iff.1 h
    exact ⟨hc, .unit .extractRg⟩
  | extractF7 =>
    obtain ⟨hc, rfl⟩ := exec_extractF7_eq_next_iff.1 h
    exact ⟨hc, .unit .extractF7⟩

theorem stepEffect_of_step (h : step s = .next t) : ConfigFixed s ∧ StepEffect s t := by
  obtain ⟨_, -, hexec⟩ := step_eq_next h
  exact stepEffect_of_exec hexec

end Sys2Proof.Machine
end

section
/-! What 10_state.md says of the configuration, the register invariant and the faults: the statements
settled over the effects. -/

namespace Sys2Proof.Machine

variable {s t : State}

/-! ## The configuration is read-only (R29) -/

theorem StepEffect.cfg_built (h : StepEffect s t) : t.cfg = s.cfg ∧ t.built = s.built := by
  cases h <;> exact ⟨rfl, rfl⟩

/-- Settles O10. -/
theorem configurationIsReadOnly : Obligations.ConfigurationIsReadOnly := by
  unfold Obligations.ConfigurationIsReadOnly
  refine ⟨fun i s t h => (stepEffect_of_exec h).2.cfg_built,
    fun s t h => (stepEffect_of_step h).2.cfg_built, fun s hchanged => ⟨?_, fun i => ?_⟩⟩
  · obtain ⟨answer, hstep⟩ := step_eq_withConfig s
    rw [hstep, withConfig_of_changed hchanged]
  · obtain ⟨answer, hexec⟩ := exec_eq_withConfig i s
    rw [hexec, withConfig_of_changed hchanged]

/-! ## Every step keeps the invariant (R33) -/

/-- A cycle starts in a state that meets the invariant, whatever the registers were. -/
theorem inv_startCycle (hc : ConfigFixed s) (hres : OutputLegal s.res) : Inv s.startCycle := by
  obtain ⟨-, -, -, -, hatt, -⟩ := Config.wellFormed_iff_checks.1 hc.2
  have hmax : 1 ≤ s.cfg.maxAttempts := (Config.attemptsFit_iff.1 hatt).1
  refine ⟨hc, .inl ⟨rfl, rfl, Nat.zero_le _, hmax⟩, fun i => ?_, fun i hi => ?_, hres⟩
  · simp [nothingWritten]
  · simp [nothingWritten] at hi

theorem inv_endCycle {tok : Token} (hc : ConfigFixed s) (htok : OutputLegal (tokenRegs tok)) :
    Inv (s.endCycle tok) :=
  inv_startCycle (s := s.emit tok) hc htok

theorem Inv.clearResult (h : Inv s) : Inv s.clearResult := by
  obtain ⟨hc, hrange, hmarks, hfits, -⟩ := h
  exact ⟨hc, hrange, hmarks, hfits, .inl rfl⟩

/-- In SEARCH the index is 0. -/
theorem idx_eq_zero_of_search (h : RegistersInRange s) (hsearch : s.phase = phaseSearch) :
    s.idx = 0#6 := by
  obtain ⟨-, hidx, -⟩ | ⟨hphase, -⟩ | ⟨hphase, -⟩ := h
  · exact hidx
  · exact absurd (hsearch.symm.trans hphase) phaseSearch_ne_capRg
  · exact absurd (hsearch.symm.trans hphase) phaseSearch_ne_capF7

/-- A sync keeps the invariant: the index it writes is the one the marks already follow. -/
theorem Inv.enterCapture {phase : BitVec 3} (h : Inv s) (hsearch : s.phase = phaseSearch)
    (hphase : phase = phaseCapRg ∨ phase = phaseCapF7) : Inv (s.enterCapture phase) := by
  obtain ⟨hc, hrange, hmarks, hfits, hres⟩ := h
  refine ⟨hc, .inr ?_, fun i => ?_, hfits, hres⟩
  · exact hphase.imp (fun hp => ⟨hp, by simp⟩) (fun hp => ⟨hp, by simp⟩)
  · simpa [idx_eq_zero_of_search hrange hsearch] using hmarks i

theorem nextRun_le (cls : PulseClass) (cnt cntMax : Nat) : nextRun cls cnt cntMax ≤ cntMax := by
  unfold nextRun
  split_ifs <;> omega

/-- A search step that does not end the search keeps both counters in range. -/
theorem Inv.countAttempt (cls : PulseClass) (h : Inv s) (hsearch : s.phase = phaseSearch)
    (hatt : s.att + 1 ≠ s.cfg.maxAttempts) :
    Inv (s.countAttempt (nextRun cls s.cnt.toNat s.cfg.cntMax)) := by
  obtain ⟨hc, hrange, hmarks, hfits, hres⟩ := h
  have hidx : s.idx = 0#6 := idx_eq_zero_of_search hrange hsearch
  refine ⟨hc, .inl ⟨hsearch, hidx, ?_, ?_⟩, hmarks, hfits, hres⟩
  · exact (BitVec.toNat_ofNat _ _ ▸ Nat.mod_le _ _).trans (nextRun_le cls _ _)
  · obtain ⟨-, -, -, hlt⟩ | ⟨hphase, -⟩ | ⟨hphase, -⟩ := hrange
    · simp only [State.countAttempt_att, State.countAttempt_cfg]
      omega
    · exact absurd (hsearch.symm.trans hphase) phaseSearch_ne_capRg
    · exact absurd (hsearch.symm.trans hphase) phaseSearch_ne_capF7

/-- Outside SEARCH both counters are 0. -/
theorem counters_eq_zero_of_capture (h : RegistersInRange s) (hcap : s.phase ≠ phaseSearch) :
    s.cnt = 0#3 ∧ s.att = 0 := by
  obtain ⟨hsearch, -⟩ | ⟨-, -, hcounters⟩ | ⟨-, -, hcounters⟩ := h
  · exact absurd hsearch hcap
  · exact hcounters
  · exact hcounters

theorem idx_capture_toNat (d : Nat) (hidx : s.idx.toNat < 63) :
    (s.capture d).idx.toNat = s.idx.toNat + 1 := by
  rw [State.capture_idx]
  bv_omega

/-- A capture marks the entry at the index and moves the index past it. -/
theorem marksFollowIndex_capture (d : Nat) (h : MarksFollowIndex s) (hidx : s.idx.toNat < 63) :
    MarksFollowIndex (s.capture d) := by
  intro i
  have hi := h i
  rw [idx_capture_toNat d hidx]
  simp only [State.capture_written, Fin.getElem_fin, Vector.getElem_set] at hi ⊢
  split_ifs with heq
  · simp [heq]
  · rw [hi, decide_eq_decide]
    omega

theorem bufferFits_capture {d : Nat} (h : BufferFits s) (hd : d < 2 ^ s.cfg.durW) :
    BufferFits (s.capture d) := by
  intro i hi
  have hfit := h i
  simp only [State.capture_written, State.capture_raw, State.capture_cfg, Fin.getElem_fin,
    Vector.getElem_set] at hfit hi ⊢
  split_ifs at hi ⊢
  · exact hd
  · exact hfit hi

/-- A capture below the last entry of its frame keeps the invariant. -/
theorem Inv.capture (h : Inv s) (hdur : s.port.inDur < 2 ^ s.cfg.durW)
    (hidx : s.phase = phaseCapRg ∧ s.idx.toNat < 63 ∨ s.phase = phaseCapF7 ∧ s.idx.toNat < 38) :
    Inv (s.capture s.port.inDur) := by
  obtain ⟨hc, hrange, hmarks, hfits, hres⟩ := h
  have hcap : s.phase ≠ phaseSearch := by
    obtain ⟨hphase, -⟩ | ⟨hphase, -⟩ := hidx <;> simp [hphase]
  have hcounters : s.cnt = 0#3 ∧ s.att = 0 := counters_eq_zero_of_capture hrange hcap
  have hlt : s.idx.toNat < 63 := by omega
  refine ⟨hc, .inr ?_, marksFollowIndex_capture _ hmarks hlt, bufferFits_capture hfits hdur, hres⟩
  rw [idx_capture_toNat _ hlt]
  exact hidx.imp (fun ⟨hphase, hi⟩ => ⟨hphase, hi, hcounters⟩)
    (fun ⟨hphase, hi⟩ => ⟨hphase, hi, hcounters⟩)

/-! The tokens a cycle ends with are laid out with the codes of 30_encoding.md R75 and R78. -/

theorem outputLegal_timeout : OutputLegal (tokenRegs .timeout) := by decide

theorem outputLegal_acceptRg (fields : RgFields) : OutputLegal (tokenRegs (.acceptRg fields)) :=
  .inr ⟨rfl, .inl ⟨rfl, rfl, rfl⟩⟩

theorem outputLegal_acceptF7 (fields : F7Fields) : OutputLegal (tokenRegs (.acceptF7 fields)) :=
  .inr ⟨rfl, .inr (.inl ⟨rfl, rfl, rfl⟩)⟩

theorem outputLegal_finishRgToken (c : Config) (ds : List Nat) :
    OutputLegal (tokenRegs (finishRgToken c ds)) := by
  unfold finishRgToken judgeRg
  split
  · decide
  · split
    · exact outputLegal_acceptRg _
    · decide

theorem outputLegal_finishF7Token (c : Config) (ds : List Nat) :
    OutputLegal (tokenRegs (finishF7Token c ds)) := by
  unfold finishF7Token judgeF7
  split
  · decide
  · split
    · split
      · exact outputLegal_acceptF7 _
      · decide
    · decide

theorem StepEffect.inv (h : StepEffect s t) (hi : Inv s) : Inv t := by
  have ⟨hc, _, _, _, hres⟩ := hi
  cases h with
  | unit _ => exact hi
  | cycleStart => exact inv_startCycle hc hres
  | hold => exact hi.clearResult
  | reset => exact inv_startCycle (s := s.clearResult) hc (.inl rfl)
  | sync hsearch hphase => exact (hi.enterCapture hsearch hphase).clearResult
  | timeout => exact inv_endCycle hc outputLegal_timeout
  | count cls hsearch hatt => exact (hi.countAttempt cls hsearch hatt).clearResult
  | capture hfits hidx => exact (hi.capture hfits hidx).clearResult
  | finishRg ds => exact inv_endCycle (s := s.writeRaw _) hc (outputLegal_finishRgToken _ ds)
  | finishF7 ds => exact inv_endCycle (s := s.writeRaw _) hc (outputLegal_finishF7Token _ ds)

/-! ## What the units show follows the frame (44_field_extractor.md R196) -/

/-- EXTRACT_RG shows the fields of the frame last packed, if it passed its checksum. -/
theorem shownRgFields_follows (h : NetsFollowFrame s) :
    shownRgFields s.cfg s.nets = .zero ∨ shownRgFields s.cfg s.nets =
      ((s.nets.packRg.filter checksumRg).map (extractRg s.cfg)).getD .zero := by
  obtain ⟨hsum, -⟩ := h
  unfold shownRgFields
  split
  · next bytes hpack hpassed =>
    have hok : checksumRg bytes = true := by simpa [hpack, hpassed] using hsum
    exact .inr (by simp [hpack, Option.filter_some, hok])
  · exact .inl rfl

/-- CRC8_F7 shows the CRC of the frame last packed, if its header check passed. -/
theorem shownCrc8F7_follows (c : Config) (nets : Nets) :
    shownCrc8F7 c nets = none ∨
      (nets.headerF7 = some true ∧ shownCrc8F7 c nets = nets.packF7.map (crc8F7 c)) := by
  unfold shownCrc8F7
  split
  · next f hpack hpassed => exact .inr ⟨hpassed, by simp [hpack]⟩
  · exact .inl rfl

/-- EXTRACT_F7 shows the fields of the frame last packed, if its header and its CRC passed. -/
theorem shownF7Fields_follows (h : NetsFollowFrame s) :
    shownF7Fields s.cfg s.nets = .zero ∨ shownF7Fields s.cfg s.nets =
      ((s.nets.packF7.filter fun f =>
        headerF7 s.cfg f && crcMatches (crc8F7 s.cfg f) f).map (extractF7 s.cfg)).getD .zero := by
  obtain ⟨-, -, hheader, hcrc, -⟩ := h
  unfold shownF7Fields
  split
  · next f crc hpack hpassed hshown =>
    have hok : headerF7 s.cfg f = true := by simpa [hpack, hpassed] using hheader
    have hcrc' : crc = crc8F7 s.cfg f := by simpa [hpack, hpassed, hshown] using hcrc
    split_ifs with hmatch
    · exact .inr (by simp [hpack, Option.filter_some, hok, ← hcrc', hmatch])
    · exact .inl rfl
  · exact .inl rfl

/-- A header check made again does not take away a CRC shown of the same frame. -/
theorem crc8F7_follows_headerF7 (h : NetsFollowFrame s) :
    s.nets.crc8F7 = none ∨ (s.nets.packF7.map (headerF7 s.cfg) = some true ∧
      s.nets.crc8F7 = s.nets.packF7.map (crc8F7 s.cfg)) := by
  obtain ⟨-, -, hheader, hcrc, -⟩ := h
  refine hcrc.imp_right fun ⟨hpassed, hshown⟩ => ⟨?_, hshown⟩
  rw [hpassed] at hheader
  simpa using hheader.symm

theorem UnitShows.netsFollowFrame {nets : Nets} (hs : UnitShows s nets) (h : NetsFollowFrame s) :
    NetsFollowFrame (s.showNets nets) := by
  have hcrc' := crc8F7_follows_headerF7 h
  have hrg' := shownRgFields_follows h
  have hf7' := shownF7Fields_follows h
  have ⟨hsum, hrg, hheader, hcrc, hf7⟩ := h
  cases hs with
  | classifyRg => exact h
  | classifyF7 => exact h
  | packRg answer => exact ⟨.inl rfl, .inl rfl, hheader, hcrc, hf7⟩
  | packF7 answer => exact ⟨hsum, hrg, .inl rfl, .inl rfl, .inl rfl⟩
  | checksumRg => exact ⟨.inr rfl, hrg, hheader, hcrc, hf7⟩
  | headerF7 => exact ⟨hsum, hrg, .inr rfl, hcrc', hf7⟩
  | crc8F7 => exact ⟨hsum, hrg, hheader, shownCrc8F7_follows _ _, hf7⟩
  | extractRg => exact ⟨hsum, hrg', hheader, hcrc, hf7⟩
  | extractF7 => exact ⟨hsum, hrg, hheader, hcrc, hf7'⟩

/-- Only a unit evaluated on its own writes the nets. -/
theorem StepEffect.netsFollowFrame (h : StepEffect s t) (hn : NetsFollowFrame s) :
    NetsFollowFrame t := by
  cases h with
  | unit hs => exact hs.netsFollowFrame hn
  | _ => exact hn

/-- Settles O49: each effect of an operation keeps both invariants. -/
theorem everyStepKeepsInvariant : Obligations.EveryStepKeepsInvariant := by
  unfold Obligations.EveryStepKeepsInvariant
  exact ⟨fun s t hi h => (stepEffect_of_step h).2.inv hi,
    fun s t hn h => (stepEffect_of_step h).2.netsFollowFrame hn⟩

/-! ## The faults (60_exceptions.md R234) -/

/-- On a valid token the step raises the fault of the registers. -/
theorem step_of_registerFault {f : Fault} (hc : ConfigFixed s) (hq : s.request = none)
    (hr : s.port.rst = false) (hv : s.port.inValid = true) (hf : registerFault s = some f) :
    step s = .fault f := by
  simp [step, fetch, select, hq, hr, hv, hf, withConfig_of_fixed hc]

/-- A phase code of 3 or more is none of the three phases (30_encoding.md R77). -/
theorem registerFault_of_illegalPhase (h : 3 ≤ s.phase.toNat) :
    registerFault s = some .illegalPhase := by
  have hphase : s.phase ≠ phaseSearch ∧ s.phase ≠ phaseCapRg ∧ s.phase ≠ phaseCapF7 :=
    ⟨fun heq => by simp [heq] at h, fun heq => by simp [heq] at h, fun heq => by simp [heq] at h⟩
  simp [registerFault, hphase]

theorem registerFault_of_capF7_idx (hp : s.phase = phaseCapF7) (h : 38 < s.idx.toNat) :
    registerFault s = some .indexOutOfRange := by
  simp [registerFault, hp, h]

/-- Settles O7. -/
theorem brokenRegistersFault : Obligations.BrokenRegistersFault := by
  unfold Obligations.BrokenRegistersFault
  intro s hc hq hr hv hbroken
  refine ⟨?_, fun hphase => ?_, fun hphase hidx => ?_⟩
  · obtain ⟨f, hf⟩ := Option.ne_none_iff_exists'.1 (mt registerFault_eq_none_iff.1 hbroken)
    exact ⟨f, step_of_registerFault hc hq hr hv hf⟩
  · exact step_of_registerFault hc hq hr hv (registerFault_of_illegalPhase hphase)
  · exact step_of_registerFault hc hq hr hv (registerFault_of_capF7_idx hphase hidx)

/-- A frame that reads an unwritten entry faults (10_state.md R26). -/
theorem withFrame_of_unwritten {n : Nat} {use : List Nat → Outcome}
    (hd : s.port.inDur < 2 ^ s.cfg.durW) (h : ∃ i : Fin 64, i.val < n ∧ s.written[i] = false) :
    withFrame s n use = .fault .unwrittenEntryRead := by
  have hread : ¬ (s.written.toList.take n).all id = true := by
    obtain ⟨i, hi, hunwritten⟩ := h
    rw [take_all_written_iff]
    exact fun hall => Bool.false_ne_true (hunwritten.symm.trans (hall i hi))
  rw [withFrame, withToken_of_fits hd, withCaptured, if_neg hread]

theorem select_finishRg_of_token (ht : TokenEdge s) (hcnt : s.cnt = 0#3) (hatt : s.att = 0)
    (hp : s.phase = phaseCapRg) (hidx : s.idx.toNat = 63) : select s = .ok .finishRg := by
  obtain ⟨hr, hv, -⟩ := ht
  rw [select_of_token hr hv (.inr (.inl ⟨hp, hidx.le, hcnt, hatt⟩)),
    tokenOp_eq_finishRg_iff.2 ⟨hp, hidx.ge⟩]

theorem select_finishF7_of_token (ht : TokenEdge s) (hcnt : s.cnt = 0#3) (hatt : s.att = 0)
    (hp : s.phase = phaseCapF7) (hidx : s.idx.toNat = 38) : select s = .ok .finishF7 := by
  obtain ⟨hr, hv, -⟩ := ht
  rw [select_of_token hr hv (.inr (.inr ⟨hp, hidx.le, hcnt, hatt⟩)),
    tokenOp_eq_finishF7_iff.2 ⟨by simp [hp], by simp [hp], hidx.ge⟩]

/-- Settles O59. -/
theorem unwrittenEntryReadFaults : Obligations.UnwrittenEntryReadFaults := by
  unfold Obligations.UnwrittenEntryReadFaults
  intro s hc ht hcnt hatt
  have ⟨_, _, hd⟩ := ht
  refine ⟨fun hunwritten => ⟨?_, fun hp hidx => ?_⟩, fun hunwritten => ⟨?_, fun hp hidx => ?_⟩⟩
  · rw [exec, execPackRg, onItsOwn_of_fixed hc, withFrame_of_unwritten hd hunwritten, onNext]
  · have hs := select_finishRg_of_token ht hcnt hatt hp hidx
    rw [exec, execFinishRg, clockEdge_of_selected hc hs, withFrame_of_unwritten hd hunwritten, onNext]
  · rw [exec, execPackF7, onItsOwn_of_fixed hc, withFrame_of_unwritten hd hunwritten, onNext]
  · have hs := select_finishF7_of_token ht hcnt hatt hp hidx
    rw [exec, execFinishF7, clockEdge_of_selected hc hs, withFrame_of_unwritten hd hunwritten, onNext]

end Sys2Proof.Machine
end

section
/-! What two runs have in common: a relation between states, carried through every check that stands
before an operation, and the two statements that no step tells certain states apart. -/

namespace Sys2Proof.Machine

variable {s t : State} {i : Instr}

/-! ## Related answers -/

/-- Two answers stop for the same reason, or go on to related states. -/
inductive AnswersRelated (R : State → State → Prop) : Outcome → Outcome → Prop
  | next {u v : State} (h : R u v) : AnswersRelated R (.next u) (.next v)
  | fault (f : Fault) : AnswersRelated R (.fault f) (.fault f)
  | refused (r : Refusal) : AnswersRelated R (.refused r) (.refused r)

namespace AnswersRelated

variable {R : State → State → Prop} {answer answer' : Outcome}

theorem next_left {u : State} (h : AnswersRelated R (.next u) answer) :
    ∃ v, answer = .next v ∧ R u v := by
  cases h with
  | next huv => exact ⟨_, rfl, huv⟩

theorem withConfig (hcfg : t.cfg = s.cfg) (hbuilt : t.built = s.built)
    (h : AnswersRelated R answer answer') :
    AnswersRelated R (withConfig s answer) (withConfig t answer') := by
  unfold Machine.withConfig configRefusal
  rw [hcfg, hbuilt]
  split
  · exact .refused _
  · exact h

theorem onNext {f : State → State} (hf : ∀ u v, R u v → R (f u) (f v))
    (h : AnswersRelated R answer answer') :
    AnswersRelated R (onNext f answer) (onNext f answer') := by
  cases h with
  | next huv => exact .next (hf _ _ huv)
  | fault f => exact .fault f
  | refused r => exact .refused r

theorem clockEdge (hcfg : t.cfg = s.cfg) (hbuilt : t.built = s.built) (hsel : select t = select s)
    (hedge : ∀ u v, R u v → R u.nextEdge v.nextEdge) (h : AnswersRelated R answer answer') :
    AnswersRelated R (clockEdge i s answer) (clockEdge i t answer') := by
  refine withConfig hcfg hbuilt ?_
  rw [hsel]
  cases select s with
  | error f => exact .fault f
  | ok j =>
    by_cases hj : j = i
    · simpa only [hj, if_true] using h.onNext hedge
    · simpa only [hj, if_false] using .refused _

theorem onItsOwn (hcfg : t.cfg = s.cfg) (hbuilt : t.built = s.built)
    (htake : ∀ u v, R u v → R u.takeRequest v.takeRequest) (h : AnswersRelated R answer answer') :
    AnswersRelated R (onItsOwn s answer) (onItsOwn t answer') :=
  withConfig hcfg hbuilt (h.onNext htake)

theorem withToken {use use' : Nat → Outcome} (hcfg : t.cfg = s.cfg) (hport : t.port = s.port)
    (h : ∀ d, AnswersRelated R (use d) (use' d)) :
    AnswersRelated R (withToken s use) (withToken t use') := by
  unfold Machine.withToken
  rw [hcfg, hport]
  split_ifs
  · exact h _
  · exact .refused _

/-- The entries read need to be the same only where they all count as written. -/
theorem withFrame {n : Nat} {use use' : List Nat → Outcome} (hcfg : t.cfg = s.cfg)
    (hport : t.port = s.port) (hmarks : t.written = s.written)
    (hraw : (s.written.toList.take n).all id = true → t.raw.toList.take n = s.raw.toList.take n)
    (h : ∀ ds, AnswersRelated R (use ds) (use' ds)) :
    AnswersRelated R (withFrame s n use) (withFrame t n use') := by
  refine withToken hcfg hport fun d => ?_
  unfold withCaptured
  rw [hmarks]
  split_ifs with hread
  · rw [hraw hread]
    exact h _
  · exact .fault _

end AnswersRelated

/-! ## Unwritten entries (R26, R32) -/

/-- Two states agree on the written entries when the second is the first with other contents there. -/
theorem agreeOnWritten_iff : AgreeOnWritten s t ↔
    ∃ raw : Vector Nat 64, t = { s with raw := raw } ∧
      ∀ i : Fin 64, s.written[i] = true → s.raw[i] = raw[i] := by
  constructor
  · rintro ⟨ht, hraw⟩
    exact ⟨t.raw, ht, hraw⟩
  · rintro ⟨raw, rfl, hraw⟩
    exact ⟨rfl, hraw⟩

theorem AgreeOnWritten.nextEdge (h : AgreeOnWritten s t) : AgreeOnWritten s.nextEdge t.nextEdge := by
  obtain ⟨raw, rfl, hraw⟩ := agreeOnWritten_iff.1 h
  exact ⟨rfl, hraw⟩

theorem AgreeOnWritten.takeRequest (h : AgreeOnWritten s t) :
    AgreeOnWritten s.takeRequest t.takeRequest := by
  obtain ⟨raw, rfl, hraw⟩ := agreeOnWritten_iff.1 h
  exact ⟨rfl, hraw⟩

/-- After CYCLE_START no entry counts as written, so any two buffers agree. -/
theorem agreeOnWritten_startCycle (s : State) (raw : Vector Nat 64) :
    AgreeOnWritten s.startCycle { s with raw := raw }.startCycle :=
  ⟨rfl, fun i hi => by simp [nothingWritten] at hi⟩

/-- A capture writes the same duration to the same entry of both buffers. -/
theorem AgreeOnWritten.capture (d : Nat) (h : AgreeOnWritten s t) :
    AgreeOnWritten (s.capture d) (t.capture d) := by
  obtain ⟨raw, rfl, hraw⟩ := agreeOnWritten_iff.1 h
  refine ⟨rfl, fun i hi => ?_⟩
  have hsame := hraw i
  simp only [State.capture_written, State.capture_raw, Fin.getElem_fin, Vector.getElem_set]
    at hsame hi ⊢
  split_ifs at hi ⊢
  · rfl
  · exact hsame hi

theorem AgreeOnWritten.detect (d : Nat) (h : AgreeOnWritten s t) :
    AgreeOnWritten (detect s d) (detect t d) := by
  obtain ⟨raw, rfl, hraw⟩ := agreeOnWritten_iff.1 h
  unfold Machine.detect
  split_ifs
  · exact ⟨rfl, hraw⟩
  · exact ⟨rfl, hraw⟩
  · exact agreeOnWritten_startCycle (s.emit .timeout) raw
  · exact ⟨rfl, hraw⟩

/-- Where the first n entries all count as written, buffers that agree are the same so far. -/
theorem AgreeOnWritten.take_raw {n : Nat} (h : AgreeOnWritten s t)
    (hread : (s.written.toList.take n).all id = true) :
    t.raw.toList.take n = s.raw.toList.take n := by
  have hwritten := (take_all_written_iff n).1 hread
  refine List.ext_getElem (by simp) fun i hi _ => ?_
  have hin : i < n ∧ i < 64 := by simpa using hi
  simpa using (h.2 ⟨i, hin.2⟩ (hwritten ⟨i, hin.2⟩ hin.1)).symm

/-- No operation tells states apart that agree on the written entries. -/
theorem AgreeOnWritten.exec (i : Instr) (h : AgreeOnWritten s t) :
    AnswersRelated AgreeOnWritten (exec i s) (exec i t) := by
  have hedge : ∀ u v, AgreeOnWritten u v → AgreeOnWritten u.nextEdge v.nextEdge :=
    fun _ _ => AgreeOnWritten.nextEdge
  have htake : ∀ u v, AgreeOnWritten u v → AgreeOnWritten u.takeRequest v.takeRequest :=
    fun _ _ => AgreeOnWritten.takeRequest
  have hcapture := fun d => h.capture d
  have hdetect := fun d => h.detect d
  have hread := fun n => h.take_raw (n := n)
  obtain ⟨raw, rfl, hraw⟩ := agreeOnWritten_iff.1 h
  cases i with
  | hold => exact .clockEdge rfl rfl rfl hedge (.next ⟨rfl, hraw⟩)
  | reset =>
    exact .clockEdge rfl rfl rfl hedge (.next (agreeOnWritten_startCycle s.clearResult raw))
  | cycleStart => exact .onItsOwn rfl rfl htake (.next (agreeOnWritten_startCycle s raw))
  | detectStep =>
    exact .clockEdge rfl rfl rfl hedge (.withToken rfl rfl fun d => .next (hdetect d))
  | captureRg =>
    exact .clockEdge rfl rfl rfl hedge
      (.withToken rfl rfl fun d => .next ⟨rfl, (hcapture d).2⟩)
  | captureF7 =>
    exact .clockEdge rfl rfl rfl hedge
      (.withToken rfl rfl fun d => .next ⟨rfl, (hcapture d).2⟩)
  | finishRg =>
    exact .clockEdge rfl rfl rfl hedge (.withFrame rfl rfl rfl (hread 63) fun ds =>
      .next (agreeOnWritten_startCycle ((s.writeRaw _).emit _) _))
  | finishF7 =>
    exact .clockEdge rfl rfl rfl hedge (.withFrame rfl rfl rfl (hread 38) fun ds =>
      .next (agreeOnWritten_startCycle ((s.writeRaw _).emit _) _))
  | classifyRg | classifyF7 =>
    exact .onItsOwn rfl rfl htake (.withToken rfl rfl fun d => .next ⟨rfl, hraw⟩)
  | packRg =>
    exact .onItsOwn rfl rfl htake (.withFrame rfl rfl rfl (hread 63) fun ds => .next ⟨rfl, hraw⟩)
  | packF7 =>
    exact .onItsOwn rfl rfl htake (.withFrame rfl rfl rfl (hread 38) fun ds => .next ⟨rfl, hraw⟩)
  | checksumRg | headerF7 | crc8F7 | extractRg | extractF7 =>
    exact .onItsOwn rfl rfl htake (.next ⟨rfl, hraw⟩)

/-- So no step tells them apart: the fetch reads no buffer entry. -/
theorem AgreeOnWritten.step (h : AgreeOnWritten s t) :
    AnswersRelated AgreeOnWritten (step s) (step t) := by
  have hexec := fun i => h.exec i
  obtain ⟨raw, rfl, hraw⟩ := agreeOnWritten_iff.1 h
  have hfetch : fetch { s with raw := raw } = fetch s := rfl
  unfold Machine.step
  rw [hfetch]
  cases fetch s with
  | op i => exact hexec i
  | fault f => exact .withConfig rfl rfl (.fault f)
  | refused r => exact .withConfig rfl rfl (.refused r)

/-- The outputs are no buffer entry, so states that agree go on emitting the same tokens, and stop
together. -/
theorem AgreeOnWritten.emitted (n : Nat) (h : AgreeOnWritten s t) : emitted n s = emitted n t := by
  induction n generalizing s t with
  | zero => rfl
  | succ n ih =>
    have hstep := h.step
    unfold Machine.emitted
    generalize Machine.step s = answer, Machine.step t = answer' at hstep ⊢
    cases hstep with
    | next huv =>
      have hres := congrArg State.res huv.1
      simp only [ih huv, hres]
    | fault f => rfl
    | refused r => rfl

/-- Settles O54. -/
theorem unwrittenEntriesHaveNoEffect : Obligations.UnwrittenEntriesHaveNoEffect := by
  unfold Obligations.UnwrittenEntriesHaveNoEffect
  exact fun s t h => ⟨fun s' hs => (hs ▸ h.step).next_left, fun n => h.emitted n⟩

/-! ## The result registers (R27) -/

theorem isStepOp_tokenOp (s : State) : isStepOp (tokenOp s) = true := by
  unfold tokenOp
  split_ifs <;> rfl

/-- A clock edge performs a step operation (30_encoding.md R83). -/
theorem isStepOp_of_select (h : select s = .ok i) : isStepOp i = true := by
  obtain ⟨-, rfl⟩ | ⟨-, -, rfl⟩ | ⟨-, -, -, rfl⟩ := select_eq_ok_iff.1 h
  · rfl
  · rfl
  · exact isStepOp_tokenOp s

/-- With nothing asked for, a step's next state is that of the operation the edge selects. -/
theorem step_eq_next_of_no_request (hq : s.request = none) (h : step s = .next t) :
    ∃ i, select s = .ok i ∧ exec i s = .next t := by
  obtain ⟨i, hfetch, hexec⟩ := step_eq_next h
  rw [fetch, hq] at hfetch
  cases hs : select s with
  | error f => simp [hs] at hfetch
  | ok j =>
    obtain rfl : j = i := by simpa [hs] using hfetch
    exact ⟨j, rfl, hexec⟩

/-- The second state is the first, but shows other nets. -/
def SameButNets (nets : Nets) (s t : State) : Prop := t = s.showNets nets

theorem sameButNets_detect (s : State) (res : ResultRegs) (nets : Nets) (d : Nat) :
    SameButNets nets (detect s d) (detect { s with res := res, nets := nets } d) := by
  unfold detect
  split_ifs <;> rfl

/-- A step operation writes every result register and reads none; the nets it leaves alone. -/
theorem exec_stepOp_sameButNets (hi : isStepOp i = true) (s : State) (res : ResultRegs)
    (nets : Nets) :
    AnswersRelated (SameButNets nets) (exec i s) (exec i { s with res := res, nets := nets }) := by
  have hedge : ∀ u v, SameButNets nets u v → SameButNets nets u.nextEdge v.nextEdge := by
    rintro u v rfl
    rfl
  cases i with
  | hold | reset => exact .clockEdge rfl rfl rfl hedge (.next rfl)
  | detectStep =>
    exact .clockEdge rfl rfl rfl hedge
      (.withToken rfl rfl fun d => .next (sameButNets_detect s res nets d))
  | captureRg | captureF7 =>
    exact .clockEdge rfl rfl rfl hedge (.withToken rfl rfl fun d => .next rfl)
  | finishRg | finishF7 =>
    exact .clockEdge rfl rfl rfl hedge
      (.withFrame rfl rfl rfl (fun _ => rfl) fun ds => .next rfl)
  | _ => exact absurd hi (by decide)

/-- Settles O53. -/
theorem stepsDoNotReadOutputs : Obligations.StepsDoNotReadOutputs := by
  unfold Obligations.StepsDoNotReadOutputs
  intro s t s' hq ht h
  obtain ⟨i, hs, hexec⟩ := step_eq_next_of_no_request hq h
  have hrel := exec_stepOp_sameButNets (isStepOp_of_select hs) s t.res t.nets
  rw [hexec, ← ht] at hrel
  obtain ⟨t', ht', hsame⟩ := hrel.next_left
  have hq' : t.request = none := ht ▸ hq
  have hs' : select t = .ok i := ht ▸ hs
  rw [step_of_selected hq' hs', ht', hsame]
  rfl

end Sys2Proof.Machine
end

section
/-! What 20_memory.md says: the order of the bits in a packed byte (R53), and what a clock edge does to
the input and to the nets (R58, R59); and the two statements settled. -/

namespace Sys2Proof.Machine

/-! ## Bits of a value, of a slice and of a packed byte (R53) -/

/-- The last bit received is bit 0 of the value, the one before it bit 1, and so on. -/
theorem testBit_bitsValue (bits : List Bool) (i : Nat) :
    (bitsValue bits).testBit i = bits.reverse.getD i false := by
  induction bits using List.reverseRecOn generalizing i with
  | nil => simp [bitsValue]
  | append_singleton bits bit ih =>
    have hbit : bitsValue (bits ++ [bit]) = Nat.bit bit (bitsValue bits) := by
      rw [bitsValue_append_singleton, Nat.bit_val]
    rw [hbit, List.reverse_concat]
    cases i with
    | zero => simp
    | succ i => simpa [Nat.testBit_bit_succ] using ih i

theorem bitsValue_lt_two_pow_length (bits : List Bool) : bitsValue bits < 2 ^ bits.length := by
  refine Nat.lt_pow_two_of_testBit _ fun i hi => ?_
  rw [testBit_bitsValue, List.getD_eq_default _ _ (by simpa using hi)]

section Slices

variable {n a b : Nat} (f : BitVec n)

@[simp] theorem length_frameBits : (frameBits f a b).length = b + 1 - a := by
  simp [frameBits]

theorem val_lt_two_pow : val f a b < 2 ^ (b + 1 - a) := by
  simpa [val] using bitsValue_lt_two_pow_length (frameBits f a b)

/-- Bit i of a slice's value is the i-th frame bit before the slice's last. -/
theorem testBit_val {i : Nat} (h : a + i ≤ b) : (val f a b).testBit i = frameBit f (b - i) := by
  have hi : i < b + 1 - a := by omega
  have hpos : a + (b + 1 - a - 1 - i) = b - i := by omega
  rw [val, testBit_bitsValue, List.getD_eq_getElem _ _ (by simpa using hi)]
  simp [frameBits, hpos]

variable (k : Nat)

/-- Eight frame bits fit a byte, so packing them loses nothing. -/
theorem toNat_frameByte : (frameByte f k).toNat = val f (8 * k) (8 * k + 7) := by
  have hlt : val f (8 * k) (8 * k + 7) < 2 ^ 8 :=
    (val_lt_two_pow f).trans_eq (congrArg (2 ^ ·) (by omega))
  rw [frameByte, BitVec.toNat_ofNat, Nat.mod_eq_of_lt hlt]

theorem getLsbD_frameByte {j : Nat} (hj : j < 8) :
    (frameByte f k).getLsbD (7 - j) = frameBit f (8 * k + j) := by
  have hpos : 8 * k + 7 - (7 - j) = 8 * k + j := by omega
  rw [← BitVec.testBit_toNat, toNat_frameByte, testBit_val f (by omega), hpos]

end Slices

/-- Settles O27. -/
theorem bytesPackMostSignificantBitFirst : Obligations.BytesPackMostSignificantBitFirst := by
  unfold Obligations.BytesPackMostSignificantBitFirst
  intro w k j _ hj
  exact ⟨getLsbD_frameByte w k hj, toNat_frameByte w k⟩

/-! ## A clock edge's input (R58, R59) -/

variable {s t : State} {i : Instr}

@[simp] theorem detect_pending (s : State) (d : Nat) : (detect s d).pending = s.pending := by
  unfold detect
  split_ifs <;> simp

@[simp] theorem detect_nets (s : State) (d : Nat) : (detect s d).nets = s.nets := by
  unfold detect
  split_ifs <;> simp

/-- A step operation's own writes leave the input to come and the nets alone; then the edge passes. -/
theorem exec_stepOp_eq_nextEdge (hi : isStepOp i = true) (h : exec i s = .next t) :
    ∃ u : State, u.pending = s.pending ∧ u.nets = s.nets ∧ u.nextEdge = t := by
  cases i with
  | hold =>
    obtain ⟨-, -, ht⟩ := exec_hold_eq_next_iff.1 h
    exact ⟨_, by simp, by simp, ht⟩
  | detectStep =>
    obtain ⟨-, -, -, ht⟩ := exec_detectStep_eq_next_iff.1 h
    exact ⟨_, by simp, by simp, ht⟩
  | captureRg =>
    obtain ⟨-, -, -, ht⟩ := exec_captureRg_eq_next_iff.1 h
    exact ⟨_, by simp, by simp, ht⟩
  | captureF7 =>
    obtain ⟨-, -, -, ht⟩ := exec_captureF7_eq_next_iff.1 h
    exact ⟨_, by simp, by simp, ht⟩
  | finishRg =>
    obtain ⟨-, -, -, -, ht⟩ := exec_finishRg_eq_next_iff.1 h
    exact ⟨_, by simp, by simp, ht⟩
  | finishF7 =>
    obtain ⟨-, -, -, -, ht⟩ := exec_finishF7_eq_next_iff.1 h
    exact ⟨_, by simp, by simp, ht⟩
  | reset =>
    obtain ⟨-, -, ht⟩ := exec_reset_eq_next_iff.1 h
    exact ⟨_, by simp, by simp, ht⟩
  | _ => exact absurd hi (by decide)

/-- Settles O51. -/
theorem stepOperationsConsumeOneEdge : Obligations.StepOperationsConsumeOneEdge := by
  unfold Obligations.StepOperationsConsumeOneEdge
  intro i s t hi h
  obtain ⟨u, hpending, hnets, rfl⟩ := exec_stepOp_eq_nextEdge hi h
  simp [hpending, hnets]

end Sys2Proof.Machine
end

section
/-! What 30_encoding.md says of the operation ids, of the selection of a clock edge's operation and of
the result token (R70 to R84): the facts about the decoder and the selection, and the statements
settled. -/

namespace Sys2Proof.Machine

/-! ## The operation ids (R83, R84) -/

/-- Every operation has its id, its byte and its decoding: the laws of the single operations put
together. -/
theorem encoding_laws (i : Instr) : Laws.Encoding.Statement i := by
  cases i with
  | hold => exact Laws.Encoding.hold
  | classifyRg => exact Laws.Encoding.classifyRg
  | classifyF7 => exact Laws.Encoding.classifyF7
  | detectStep => exact Laws.Encoding.detectStep
  | captureRg => exact Laws.Encoding.captureRg
  | captureF7 => exact Laws.Encoding.captureF7
  | packRg => exact Laws.Encoding.packRg
  | packF7 => exact Laws.Encoding.packF7
  | checksumRg => exact Laws.Encoding.checksumRg
  | headerF7 => exact Laws.Encoding.headerF7
  | crc8F7 => exact Laws.Encoding.crc8F7
  | extractRg => exact Laws.Encoding.extractRg
  | extractF7 => exact Laws.Encoding.extractF7
  | finishRg => exact Laws.Encoding.finishRg
  | finishF7 => exact Laws.Encoding.finishF7
  | cycleStart => exact Laws.Encoding.cycleStart
  | reset => exact Laws.Encoding.reset

theorem decode_encode (i : Instr) : decode (encode i) = .ok i := by
  obtain ⟨-, -, hdecode⟩ := encoding_laws i
  exact hdecode

/-- The 32 ids, one by one: an id names at most the operation whose id it is. -/
theorem opId_of_opOfId : ∀ id : BitVec 5, (opOfId id).all (fun i => opId i = id) = true := by decide

/-- Ids 0x11 to 0x1F name no operation (R84). -/
theorem opOfId_unassigned : ∀ id : BitVec 5, 0x11 ≤ id.toNat → opOfId id = none := by decide

theorem decodeByte_of_wide {b : Byte} (h : 0x1F < b.toNat) :
    decodeByte b = .error (.notAnOpId b) := by
  rw [decodeByte, if_pos h]

theorem decodeByte_of_named {b : Byte} {i : Instr} (h : b.toNat ≤ 0x1F)
    (hid : opOfId (b.setWidth 5) = some i) : decodeByte b = .ok i := by
  rw [decodeByte, if_neg (by omega), hid]

theorem decodeByte_of_unassigned {b : Byte} (h : b.toNat ≤ 0x1F)
    (hid : opOfId (b.setWidth 5) = none) : decodeByte b = .error (.unassigned (b.setWidth 5)) := by
  rw [decodeByte, if_neg (by omega), hid]

/-- A byte of at most 0x1F is its lower five bits. -/
theorem toNat_setWidth_five {b : Byte} (h : b.toNat ≤ 0x1F) : (b.setWidth 5).toNat = b.toNat := by
  rw [BitVec.toNat_setWidth]
  omega

/-- Only a byte of at most 0x1F decodes, and then to the operation whose id it is. -/
theorem opId_of_decodeByte {b : Byte} {i : Instr} (h : decodeByte b = .ok i) :
    b.toNat ≤ 0x1F ∧ opId i = b.setWidth 5 := by
  by_cases hwide : 0x1F < b.toNat
  · simp [decodeByte_of_wide hwide] at h
  have hfits : b.toNat ≤ 0x1F := by omega
  refine ⟨hfits, ?_⟩
  cases hid : opOfId (b.setWidth 5) with
  | none => simp [decodeByte_of_unassigned hfits hid] at h
  | some j =>
    obtain rfl : j = i := by simpa [decodeByte_of_named hfits hid] using h
    simpa [hid] using opId_of_opOfId (b.setWidth 5)

theorem encode_of_decode {b : Byte} {i : Instr} (h : decode [b] = .ok i) : encode i = [b] := by
  obtain ⟨hfits, hid⟩ := opId_of_decodeByte h
  have hb : (b.setWidth 5).setWidth 8 = b := by
    apply BitVec.eq_of_toNat_eq
    rw [BitVec.toNat_setWidth, toNat_setWidth_five hfits]
    omega
  rw [encode, hid, hb]

/-- Settles O1. -/
theorem operationIdsNameTheirOperations : Obligations.OperationIdsNameTheirOperations := by
  unfold Obligations.OperationIdsNameTheirOperations
  exact ⟨decode_encode .hold, decode_encode .classifyRg, decode_encode .classifyF7,
    decode_encode .detectStep, decode_encode .captureRg, decode_encode .captureF7,
    decode_encode .packRg, decode_encode .packF7, decode_encode .checksumRg,
    decode_encode .headerF7, decode_encode .crc8F7, decode_encode .extractRg,
    decode_encode .extractF7, decode_encode .finishRg, decode_encode .finishF7,
    decode_encode .cycleStart, decode_encode .reset⟩

/-- Settles O2. -/
theorem decodeAndEncodeAgree : Obligations.DecodeAndEncodeAgree := by
  unfold Obligations.DecodeAndEncodeAgree
  exact ⟨decode_encode, fun _ _ => encode_of_decode⟩

variable {s : State} {i j : Instr}

/-- A request for a byte that is no operation id is refused by the fetch. -/
theorem step_of_undecodable {b : Byte} {e : DecodeError} (hc : ConfigFixed s)
    (hq : s.request = some b) (hd : decode [b] = .error e) : step s = .refused .unassignedOpId := by
  simp only [step, fetch, hq, hd, withConfig_of_fixed hc]

/-- Settles O3. -/
theorem unassignedIdsAreRefused : Obligations.UnassignedIdsAreRefused := by
  unfold Obligations.UnassignedIdsAreRefused
  intro s b hb
  have hunassigned (hfits : b.toNat ≤ 0x1F) : decode [b] = .error (.unassigned (b.setWidth 5)) :=
    decodeByte_of_unassigned hfits (opOfId_unassigned _ (by rwa [toNat_setWidth_five hfits]))
  have hwide (h : 0x1F < b.toNat) : decode [b] = .error (.notAnOpId b) := decodeByte_of_wide h
  refine ⟨hunassigned, hwide, fun hc hq => ?_⟩
  obtain h | hfits := Nat.lt_or_ge 0x1F b.toNat
  · exact step_of_undecodable hc hq (hwide h)
  · exact step_of_undecodable hc hq (hunassigned hfits)

/-! ## The operation of a clock edge (R82) -/

theorem select_of_registerFault {f : Fault} (hr : s.port.rst = false) (hv : s.port.inValid = true)
    (hf : registerFault s = some f) : select s = .error f := by
  simp [select, hr, hv, hf]

/-- Settles O4. -/
theorem edgeSelectsOperationOfMap : Obligations.EdgeSelectsOperationOfMap := by
  unfold Obligations.EdgeSelectsOperationOfMap
  intro s
  refine ⟨select_of_reset, select_of_idle, fun hr hv => ⟨fun hphase => ?_, fun hp hrange => ?_,
    fun hp hidx hrange => ?_, fun hp hidx hrange => ?_, fun hp hidx hrange => ?_,
    fun hp hidx hrange => ?_, fun hp hidx => ?_⟩⟩
  · exact select_of_registerFault hr hv (registerFault_of_illegalPhase hphase)
  · rw [select_of_token hr hv hrange, tokenOp_eq_detectStep_iff.2 hp]
  · rw [select_of_token hr hv hrange, tokenOp_eq_captureRg_iff.2 ⟨hp, hidx⟩]
  · rw [select_of_token hr hv hrange, tokenOp_eq_finishRg_iff.2 ⟨hp, hidx.ge⟩]
  · rw [select_of_token hr hv hrange, tokenOp_eq_captureF7_iff.2 ⟨by simp [hp], by simp [hp], hidx⟩]
  · rw [select_of_token hr hv hrange,
      tokenOp_eq_finishF7_iff.2 ⟨by simp [hp], by simp [hp], hidx.ge⟩]
  · exact select_of_registerFault hr hv (registerFault_of_capF7_idx hp hidx)

/-! ## A step operation and the edge it is asked for on (log 11) -/

/-- A step operation answers through the selection of the clock edge. -/
theorem exec_stepOp_eq_clockEdge (hi : isStepOp i = true) (s : State) :
    ∃ answer, exec i s = clockEdge i s answer := by
  cases i with
  | hold | reset | detectStep | captureRg | captureF7 | finishRg | finishF7 => exact ⟨_, rfl⟩
  | _ => exact absurd hi (by decide)

theorem clockEdge_of_other {answer : Outcome} (hc : ConfigFixed s) (hs : select s = .ok j)
    (hne : j ≠ i) : clockEdge i s answer = .refused .notSelected := by
  simp [clockEdge, withConfig_of_fixed hc, hs, hne]

theorem clockEdge_of_fault {f : Fault} {answer : Outcome} (hs : select s = .error f) :
    clockEdge i s answer = withConfig s (.fault f) := by
  rw [clockEdge, hs]

theorem withToken_of_wide {use : Nat → Outcome} (h : 2 ^ s.cfg.durW ≤ s.port.inDur) :
    withToken s use = .refused .durationTooWide := by
  rw [withToken, if_neg (by omega)]

/-- The step operations that take the token answer by way of its duration (R71). -/
theorem exec_eq_clockEdge_withToken
    (hi : i ∈ [.detectStep, .captureRg, .captureF7, .finishRg, .finishF7]) (s : State) :
    ∃ use, exec i s = clockEdge i s (withToken s use) := by
  simp only [List.mem_cons, List.not_mem_nil, or_false] at hi
  obtain rfl | rfl | rfl | rfl | rfl := hi <;> exact ⟨_, rfl⟩

/-- So do the units that take it, evaluated on their own (log 9). -/
theorem exec_eq_onItsOwn_withToken (hi : i ∈ [.classifyRg, .classifyF7, .packRg, .packF7])
    (s : State) : ∃ use, exec i s = onItsOwn s (withToken s use) := by
  simp only [List.mem_cons, List.not_mem_nil, or_false] at hi
  obtain rfl | rfl | rfl | rfl := hi <;> exact ⟨_, rfl⟩

/-- Settles O60. -/
theorem outsideTheMachineIsRefused : Obligations.OutsideTheMachineIsRefused := by
  unfold Obligations.OutsideTheMachineIsRefused
  refine ⟨fun i j s hc hi hs hne => ?_, fun i s hc hwide => ⟨fun hi hs => ?_, fun hi => ?_⟩⟩
  · obtain ⟨answer, hexec⟩ := exec_stepOp_eq_clockEdge hi s
    rw [hexec, clockEdge_of_other hc hs hne]
  · obtain ⟨use, hexec⟩ := exec_eq_clockEdge_withToken hi s
    rw [hexec, clockEdge_of_selected hc hs, withToken_of_wide hwide, onNext]
  · obtain ⟨use, hexec⟩ := exec_eq_onItsOwn_withToken hi s
    rw [hexec, onItsOwn_of_fixed hc, withToken_of_wide hwide, onNext]

/-! ## An operation presented for the next step (log 15) -/

/-- Where the selection faults, the step and the operation asked for stop alike. -/
theorem step_of_selectionFault {f : Fault} (hi : isStepOp i = true) (hq : s.request = none)
    (hs : select s = .error f) : step s = exec i s := by
  obtain ⟨answer, hexec⟩ := exec_stepOp_eq_clockEdge hi s
  rw [hexec, clockEdge_of_fault hs]
  simp only [step, fetch, hq, hs]

/-- On a valid token the step is the operation of the phase and the index, also where the other
registers are out of range and both fault. -/
theorem step_of_tokenOp (hq : s.request = none) (hr : s.port.rst = false)
    (hv : s.port.inValid = true) : step s = exec (tokenOp s) s := by
  cases hf : registerFault s with
  | none => exact step_of_selected hq (select_of_token hr hv (registerFault_eq_none_iff.1 hf))
  | some f =>
    exact step_of_selectionFault (isStepOp_tokenOp s) hq (select_of_registerFault hr hv hf)

/-- A request for an operation's id runs the operation, whatever else was arranged before. -/
theorem step_presentRequest (i : Instr) (s : State) :
    step (s.presentRequest i) = exec i (s.presentRequest i) :=
  step_of_requested rfl (decode_encode i)

/-- The next step runs the operation that was presented: the seven step operations by the edge that
selects them, the others by a request. -/
theorem step_present (i : Instr) (s : State) : step (s.present i) = exec i (s.present i) := by
  cases i with
  | hold => exact step_of_selected rfl (select_of_idle rfl rfl)
  | reset => exact step_of_selected rfl (select_of_reset rfl)
  | detectStep | captureRg | captureF7 | finishRg | finishF7 => exact step_of_tokenOp rfl rfl rfl
  | packRg | packF7 | classifyRg | classifyF7 | checksumRg | headerF7 | crc8F7 | extractRg
  | extractF7 | cycleStart => exact step_presentRequest _ _

/-- Settles O6. -/
theorem presentedOperationRunsNext : Obligations.PresentedOperationRunsNext := by
  unfold Obligations.PresentedOperationRunsNext
  intro s w i hw
  have hpresent : s.withFetchWord 8 w = s.present i := by
    rw [State.withFetchWord, State.presentWord, hw]
  rw [hpresent, step_present]

/-! ## The layout of a result token (R75, R78, R80) -/

/-- Settles O43. Each token's codes and field groups are the four columns of `tokenRegs`; the two
protocols of a rejected pulse differ in theirs. -/
theorem tokenLayoutIsTheSpecs : Obligations.TokenLayoutIsTheSpecs := by
  unfold Obligations.TokenLayoutIsTheSpecs
  refine ⟨rfl, fun p => ?_, rfl, rfl, rfl, fun _ => rfl, fun _ => rfl⟩
  cases p with
  | rainGauge => rfl
  | f007tp => rfl

end Sys2Proof.Machine
end

section
/-! Runs of clock edges as a relation between states, and the runs a decode cycle is made of: a preamble,
a sync, a frame captured, and the frame's outcome (41_detector.md R121, 42_frame_decoder.md R140 to R143,
45_cycle.md R205 to R207). Nothing here fixes the configuration. -/

namespace Sys2Proof.Machine

variable {s t u : State} {m n : Nat} {out out' : List ResultRegs}

/-! ## The input to come -/

/-- The edges to come carry the inputs ps, and idle edges follow (log 7). -/
def Presents (s : State) (ps : List PortIn) : Prop := s.port = ps.headD .idle ∧ s.pending = ps.tail

theorem Presents.of_feeds {ds : List Nat} {rest : List PortIn} (h : Feeds s ds rest) :
    Presents s (ds.map .token ++ rest) := by
  rw [← (h : s.port :: s.pending = _)]
  exact ⟨rfl, rfl⟩

theorem Presents.port {p : PortIn} {ps : List PortIn} (h : Presents s (p :: ps)) : s.port = p := h.1

/-! ## One legal step -/

theorem LegalRun.configFixed (h : LegalRun s) : ConfigFixed s := by
  obtain ⟨⟨hc, -⟩, -⟩ := h
  exact hc

theorem LegalRun.registersInRange (h : LegalRun s) : RegistersInRange s := by
  obtain ⟨⟨-, hrange, -⟩, -⟩ := h
  exact hrange

theorem LegalRun.marksFollowIndex (h : LegalRun s) : MarksFollowIndex s := by
  obtain ⟨⟨-, -, hmarks, -⟩, -⟩ := h
  exact hmarks

theorem LegalRun.inDur_lt (h : LegalRun s) : s.port.inDur < 2 ^ s.cfg.durW := by
  obtain ⟨-, hfit, -⟩ := h
  exact hfit _ (List.mem_cons_self ..)

theorem LegalRun.noRequest (h : LegalRun s) : s.request = none := by
  obtain ⟨-, -, hq⟩ := h
  exact hq

/-- With nothing asked for, a step is a clock edge, and consumes one edge's inputs. -/
theorem step_consumes (hq : s.request = none) (h : step s = .next t) :
    t.port = s.pending.headD .idle ∧ t.pending = s.pending.tail ∧ t.request = none := by
  obtain ⟨i, hs, hexec⟩ := step_eq_next_of_no_request hq h
  obtain ⟨hport, hpending, -, hrequest⟩ :=
    stepOperationsConsumeOneEdge i s t (isStepOp_of_select hs) hexec
  exact ⟨hport, hpending, hrequest⟩

theorem Presents.step {ps : List PortIn} (h : Presents s ps) (hq : s.request = none)
    (hstep : Machine.step s = .next t) : Presents t ps.tail := by
  obtain ⟨hport, hpending, -⟩ := step_consumes hq hstep
  rw [h.2] at hport hpending
  exact ⟨hport, hpending⟩

theorem cfg_of_step (h : step s = .next t) : t.cfg = s.cfg := (stepEffect_of_step h).2.cfg_built.1

/-- A state of a run steps to a state of a run. -/
theorem LegalRun.step (hl : LegalRun s) (h : Machine.step s = .next t) : LegalRun t := by
  have ⟨hinv, hfit, hq⟩ := hl
  obtain ⟨hport, hpending, hrequest⟩ := step_consumes hq h
  refine ⟨everyStepKeepsInvariant.1 s t hinv h, fun p hp => ?_, hrequest⟩
  rw [cfg_of_step h]
  rw [hport, hpending] at hp
  cases hlist : s.pending with
  | nil =>
    obtain rfl : p = .idle := by simpa [hlist] using hp
    exact Nat.two_pow_pos _
  | cons q qs =>
    rw [hlist] at hp
    exact hfit p (List.mem_cons_of_mem _ (hlist ▸ hp))

/-! ## Several legal steps -/

/-- n steps of a run lead from the first state to the second and emit the tokens listed. -/
inductive LegalSteps : Nat → State → State → List ResultRegs → Prop
  | nil {s : State} (hl : LegalRun s) : LegalSteps 0 s s []
  | cons {n : Nat} {s t u : State} {out : List ResultRegs} (hl : LegalRun s) (h : step s = .next t)
      (hrest : LegalSteps n t u out) :
      LegalSteps (n + 1) s u ((if t.res.valid then [t.res] else []) ++ out)

namespace LegalSteps

theorem run_eq (h : LegalSteps n s t out) : run n s = .next t := by
  induction h with
  | nil _ => rfl
  | cons _ hstep _ ih => rw [run_succ hstep, ih]

theorem emitted_eq (h : LegalSteps n s t out) : emitted n s = out := by
  induction h with
  | nil _ => rfl
  | cons _ hstep _ ih => rw [emitted_succ hstep, ih]

theorem legalRun (h : LegalSteps n s t out) : LegalRun t := by
  induction h with
  | nil hl => exact hl
  | cons _ _ _ ih => exact ih

theorem cfg_eq (h : LegalSteps n s t out) : t.cfg = s.cfg := by
  induction h with
  | nil _ => rfl
  | cons _ hstep _ ih => rw [ih, cfg_of_step hstep]

/-- Each step has consumed one edge's inputs. -/
theorem presents {ps : List PortIn} (h : LegalSteps n s t out) (hp : Presents s ps) :
    Presents t (ps.drop n) := by
  induction h generalizing ps with
  | nil _ => exact hp
  | cons hl hstep _ ih => simpa using ih (hp.step hl.noRequest hstep)

theorem trans (h : LegalSteps m s t out) (h' : LegalSteps n t u out') :
    LegalSteps (m + n) s u (out ++ out') := by
  induction h with
  | nil _ => simpa using h'
  | cons hl hstep _ ih =>
    rw [Nat.succ_add, List.append_assoc]
    exact .cons hl hstep (ih h')

/-- A step that emits nothing, and then the others. -/
theorem quiet (hl : LegalRun s) (h : step s = .next t) (hres : t.res = .zero)
    (hrest : LegalSteps n t u out) : LegalSteps (n + 1) s u out := by
  simpa [hres, ResultRegs.zero] using LegalSteps.cons hl h hrest

/-- A step that emits a token. -/
theorem emits {tok : Token} (hl : LegalRun s) (h : step s = .next t) (hres : t.res = tokenRegs tok) :
    LegalSteps 1 s t [t.res] := by
  simpa [hres, tokenRegs] using LegalSteps.cons hl h (.nil (hl.step h))

end LegalSteps

/-! ## The step of a valid token, by phase -/

section TokenSteps

variable (hl : LegalRun s) (hr : s.port.rst = false) (hv : s.port.inValid = true)

include hl hr hv

theorem step_search (hp : s.phase = phaseSearch) :
    step s = .next (detect s s.port.inDur).nextEdge := by
  have hs : select s = .ok .detectStep := by
    rw [select_of_token hr hv hl.registersInRange, tokenOp_eq_detectStep_iff.2 hp]
  rw [step_of_selected hl.noRequest hs]
  exact exec_detectStep_eq_next_iff.2 ⟨hl.configFixed, hs, hl.inDur_lt, rfl⟩

theorem step_capture
    (hidx : s.phase = phaseCapRg ∧ s.idx.toNat < 63 ∨ s.phase = phaseCapF7 ∧ s.idx.toNat < 38) :
    step s = .next (s.capture s.port.inDur).clearResult.nextEdge := by
  obtain h | ⟨hp, hi⟩ := hidx
  · have hs : select s = .ok .captureRg := by
      rw [select_of_token hr hv hl.registersInRange, tokenOp_eq_captureRg_iff.2 h]
    rw [step_of_selected hl.noRequest hs]
    exact exec_captureRg_eq_next_iff.2 ⟨hl.configFixed, hs, hl.inDur_lt, rfl⟩
  · have hs : select s = .ok .captureF7 := by
      rw [select_of_token hr hv hl.registersInRange,
        tokenOp_eq_captureF7_iff.2 ⟨by simp [hp], by simp [hp], hi⟩]
    rw [step_of_selected hl.noRequest hs]
    exact exec_captureF7_eq_next_iff.2 ⟨hl.configFixed, hs, hl.inDur_lt, rfl⟩

omit hr hv in
/-- In a run the entries below the index are the ones that count as written. -/
theorem take_idx_all_written : (s.written.toList.take s.idx.toNat).all id = true :=
  (take_all_written_iff _).2 fun i hi => by simpa [hi] using hl.marksFollowIndex i

theorem step_finishRg (hp : s.phase = phaseCapRg) (hidx : s.idx.toNat = 63) :
    step s = .next ((s.writeRaw s.port.inDur).endCycle
      (finishRgToken s.cfg (s.raw.toList.take 63 ++ [s.port.inDur]))).nextEdge := by
  have hs : select s = .ok .finishRg := by
    rw [select_of_token hr hv hl.registersInRange, tokenOp_eq_finishRg_iff.2 ⟨hp, hidx.ge⟩]
  rw [step_of_selected hl.noRequest hs]
  exact exec_finishRg_eq_next_iff.2
    ⟨hl.configFixed, hs, hl.inDur_lt, hidx ▸ take_idx_all_written hl, rfl⟩

theorem step_finishF7 (hp : s.phase = phaseCapF7) (hidx : s.idx.toNat = 38) :
    step s = .next ((s.writeRaw s.port.inDur).endCycle
      (finishF7Token s.cfg (s.raw.toList.take 38 ++ [s.port.inDur]))).nextEdge := by
  have hs : select s = .ok .finishF7 := by
    rw [select_of_token hr hv hl.registersInRange,
      tokenOp_eq_finishF7_iff.2 ⟨by simp [hp], by simp [hp], hidx.ge⟩]
  rw [step_of_selected hl.noRequest hs]
  exact exec_finishF7_eq_next_iff.2
    ⟨hl.configFixed, hs, hl.inDur_lt, hidx ▸ take_idx_all_written hl, rfl⟩

end TokenSteps

/-! ## A search: the preamble's short pulses and the sync (41_detector.md R121) -/

/-- Case S: a short pulse that is no sync marker lengthens the run, up to saturation. -/
theorem detect_of_short {d : Nat} (hrg : clsRg s.cfg d ≠ .syncMarker)
    (hf7 : clsF7 s.cfg d = .shortBit) (hatt : s.att + 1 ≠ s.cfg.maxAttempts) :
    detect s d = (s.countAttempt (min (s.cnt.toNat + 1) s.cfg.cntMax)).clearResult := by
  simp [detect, hrg, hf7, hatt, nextRun]

/-- Case Y: a sync marker starts a RainGauge capture. -/
theorem detect_of_syncMarker {d : Nat} (hrg : clsRg s.cfg d = .syncMarker) :
    detect s d = (s.enterCapture phaseCapRg).clearResult := by
  rw [detect, if_pos hrg]

/-- Case P: a long pulse after a sufficient run starts an F007TP capture. -/
theorem detect_of_preamble {d : Nat} (hrg : clsRg s.cfg d ≠ .syncMarker)
    (hf7 : clsF7 s.cfg d = .longBit) (hrun : s.cfg.preambleRun < s.cnt.toNat) :
    detect s d = (s.enterCapture phaseCapF7).clearResult := by
  rw [detect, if_neg hrg, if_pos ⟨hf7, hrun⟩]

/-- Under R8(g) the run counter holds the saturated run without loss. -/
theorem toNat_saturatedRun (hc : ConfigFixed s) (k : Nat) :
    (BitVec.ofNat 3 (min k s.cfg.cntMax)).toNat = min k s.cfg.cntMax := by
  obtain ⟨-, -, -, -, -, hrun, -⟩ := Config.wellFormed_iff_checks.1 hc.2
  obtain ⟨-, hmax⟩ := Config.runFits_iff.1 hrun
  rw [BitVec.toNat_ofNat]
  omega

/-- Short pulses that do not exhaust the search leave it with the run and the attempts they make. -/
theorem steps_of_shorts (shorts : List Nat) (ps : List PortIn) (hl : LegalRun s)
    (hp : s.phase = phaseSearch) (hin : Presents s (shorts.map .token ++ ps))
    (hshort : ∀ d ∈ shorts, clsF7 s.cfg d = .shortBit ∧ clsRg s.cfg d ≠ .syncMarker)
    (hatt : s.att + shorts.length < s.cfg.maxAttempts) :
    ∃ t, LegalSteps shorts.length s t [] ∧ t.phase = phaseSearch ∧
      t.att = s.att + shorts.length ∧
      t.cnt.toNat = min (s.cnt.toNat + shorts.length) s.cfg.cntMax := by
  induction shorts generalizing s with
  | nil =>
    have hcnt : s.cnt.toNat ≤ s.cfg.cntMax := by
      obtain ⟨-, -, hcnt, -⟩ | ⟨-, -, hcnt, -⟩ | ⟨-, -, hcnt, -⟩ := hl.registersInRange
      · exact hcnt
      · simp [hcnt]
      · simp [hcnt]
    exact ⟨s, .nil hl, hp, rfl, (min_eq_left hcnt).symm⟩
  | cons d ds ih =>
    have hport : s.port = .token d := hin.port
    obtain ⟨hd, hds⟩ := List.forall_mem_cons.1 hshort
    rw [List.length_cons] at hatt ⊢
    have hstep := step_search hl (by rw [hport]; rfl) (by rw [hport]; rfl) hp
    rw [hport, PortIn.token, detect_of_short hd.2 hd.1 (by omega)] at hstep
    obtain ⟨t, hsteps, hphase, hatt', hcnt⟩ := ih (hl.step hstep) hp (hin.step hl.noRequest hstep) hds
      (by simp only [State.nextEdge_att, State.clearResult_att, State.countAttempt_att,
        State.nextEdge_cfg, State.clearResult_cfg, State.countAttempt_cfg]; omega)
    refine ⟨t, .quiet hl hstep rfl hsteps, hphase, ?_, ?_⟩
    · simp only [State.nextEdge_att, State.clearResult_att, State.countAttempt_att] at hatt'
      omega
    · simp only [State.nextEdge_cnt, State.clearResult_cnt, State.countAttempt_cnt,
        State.nextEdge_cfg, State.clearResult_cfg, State.countAttempt_cfg,
        toNat_saturatedRun hl.configFixed] at hcnt
      omega

/-- From the start of a cycle a sufficient run of short pulses and a long one sync F007TP. The run may
use up all attempts but the one the long pulse syncs on. -/
theorem steps_of_preamble {shorts : List Nat} {long : Nat} {ps : List PortIn} (hl : LegalRun s)
    (hstart : AtCycleStart s) (hin : Presents s ((shorts ++ [long]).map .token ++ ps))
    (hshort : ∀ d ∈ shorts, clsF7 s.cfg d = .shortBit ∧ clsRg s.cfg d ≠ .syncMarker)
    (hf7 : clsF7 s.cfg long = .longBit) (hrg : clsRg s.cfg long ≠ .syncMarker)
    (hrun : s.cfg.preambleRun < shorts.length) (hatt : shorts.length < s.cfg.maxAttempts) :
    ∃ t, LegalSteps (shorts.length + 1) s t [] ∧ t.phase = phaseCapF7 ∧ t.idx = 0#6 := by
  obtain ⟨hp, hcnt0, hatt0, -, -⟩ := hstart
  rw [List.map_append, List.append_assoc] at hin
  obtain ⟨u, hsteps, hphase, -, hcnt⟩ :=
    steps_of_shorts shorts _ hl hp hin hshort (by rw [hatt0, Nat.zero_add]; exact hatt)
  have hlong := hsteps.presents hin
  rw [List.drop_left' (by simp)] at hlong
  have hport : u.port = .token long := hlong.port
  have hrun' : s.cfg.preambleRun < u.cnt.toNat := by
    obtain ⟨-, -, -, -, -, hfits, -⟩ := Config.wellFormed_iff_checks.1 hl.configFixed.2
    rw [hcnt, hcnt0]
    exact lt_min (by simpa using hrun) (Config.runFits_iff.1 hfits).1
  have hstep := step_search hsteps.legalRun (by rw [hport]; rfl) (by rw [hport]; rfl) hphase
  have hcfg := hsteps.cfg_eq
  rw [hport, PortIn.token,
    detect_of_preamble (by rwa [hcfg]) (by rwa [hcfg]) (by rwa [hcfg])] at hstep
  have hsync := LegalSteps.quiet hsteps.legalRun hstep rfl (.nil (hsteps.legalRun.step hstep))
  exact ⟨_, hsteps.trans hsync, rfl, rfl⟩

/-! ## A frame: its captures and its outcome (42_frame_decoder.md R143, 45_cycle.md R205, R206) -/

/-- Storing a list's first element and then the others is storing the list. -/
theorem take_append_drop_set (L ds : List Nat) (k d : Nat) (hk : k < L.length) :
    (L.set k d).take (k + 1) ++ ds ++ (L.set k d).drop (k + 1 + ds.length)
      = L.take k ++ (d :: ds) ++ L.drop (k + (d :: ds).length) := by
  have htake : (L.set k d).take (k + 1) = L.take k ++ [d] := by
    rw [List.take_succ_eq_append_getElem (by simpa using hk), List.take_set_of_le le_rfl,
      List.getElem_set_self]
  rw [htake, List.drop_set_of_lt (by omega), List.length_cons]
  simp [Nat.add_comm, Nat.add_left_comm]

/-- The pulses of a frame before its last are stored one after another from the index on, whatever they
are, and no token is emitted. -/
theorem steps_of_captures (ds : List Nat) (ps : List PortIn) (hl : LegalRun s)
    (hin : Presents s (ds.map .token ++ ps))
    (hidx : s.phase = phaseCapRg ∧ s.idx.toNat + ds.length ≤ 63 ∨
      s.phase = phaseCapF7 ∧ s.idx.toNat + ds.length ≤ 38) :
    ∃ t, LegalSteps ds.length s t [] ∧ t.phase = s.phase ∧
      t.idx.toNat = s.idx.toNat + ds.length ∧
      t.raw.toList =
        s.raw.toList.take s.idx.toNat ++ ds ++ s.raw.toList.drop (s.idx.toNat + ds.length) := by
  induction ds generalizing s with
  | nil => exact ⟨s, .nil hl, rfl, rfl, by simp⟩
  | cons d ds ih =>
    have hport : s.port = .token d := hin.port
    simp only [List.length_cons] at hidx
    have hstep := step_capture hl (by rw [hport]; rfl) (by rw [hport]; rfl)
      (hidx.imp (fun ⟨hp, h⟩ => ⟨hp, by omega⟩) (fun ⟨hp, h⟩ => ⟨hp, by omega⟩))
    rw [hport, PortIn.token] at hstep
    have hnext : (s.capture d).idx.toNat = s.idx.toNat + 1 := idx_capture_toNat d (by omega)
    obtain ⟨t, hsteps, hphase, hidx', hraw⟩ := ih (hl.step hstep) (hin.step hl.noRequest hstep)
      (by
        simp only [State.nextEdge_phase, State.clearResult_phase, State.capture_phase,
          State.nextEdge_idx, State.clearResult_idx, hnext]
        exact hidx.imp (fun ⟨hp, h⟩ => ⟨hp, by omega⟩) (fun ⟨hp, h⟩ => ⟨hp, by omega⟩))
    simp only [State.nextEdge_idx, State.clearResult_idx, hnext, State.nextEdge_raw,
      State.clearResult_raw, State.capture_raw, Vector.toList_set] at hidx' hraw
    refine ⟨t, .quiet hl hstep rfl hsteps, hphase, ?_, ?_⟩
    · rw [hidx', List.length_cons]
      omega
    · rw [hraw, take_append_drop_set _ _ _ _ (by simpa using s.idx.isLt)]

/-- A captured frame of n + 1 pulses is the first n and the last, which comes with the port. -/
theorem steps_to_last_pulse {ds : List Nat} {ps : List PortIn} (hl : LegalRun s) (hi : s.idx = 0#6)
    (hlen : ds.length = n + 1) (hin : Presents s (ds.map .token ++ ps))
    (hn : s.phase = phaseCapRg ∧ n ≤ 63 ∨ s.phase = phaseCapF7 ∧ n ≤ 38) :
    ∃ t, LegalSteps n s t [] ∧ t.phase = s.phase ∧ t.idx.toNat = n ∧ t.port.rst = false ∧
      t.port.inValid = true ∧ t.raw.toList.take n ++ [t.port.inDur] = ds ∧
      t.raw.toList.set n t.port.inDur = ds ++ s.raw.toList.drop (n + 1) := by
  obtain ⟨init, last, rfl⟩ : ∃ init last, ds = init ++ [last] :=
    (List.eq_nil_or_concat' ds).resolve_left (List.ne_nil_of_length_eq_add_one hlen)
  obtain rfl : init.length = n := by simpa using hlen
  have hin' : Presents s (init.map .token ++ (.token last :: ps)) := by simpa using hin
  obtain ⟨t, hsteps, hphase, hidx, hraw⟩ :=
    steps_of_captures init (.token last :: ps) hl hin' (by simpa [hi] using hn)
  have hport : t.port = .token last := by
    have h := hsteps.presents hin'
    rw [List.drop_left' (by simp)] at h
    exact h.port
  refine ⟨t, hsteps, hphase, by simpa [hi] using hidx, by rw [hport]; rfl, by rw [hport]; rfl,
    ?_, ?_⟩
  · simp [hraw, hi, hport, PortIn.token]
  · have hlast : init.length < s.raw.toList.length := by
      rw [Vector.length_toList]
      omega
    simp [hraw, hi, hport, PortIn.token, List.set_append_right, List.drop_eq_getElem_cons hlast]

/-- The last pulse of a cycle emits its token, and the next cycle starts. -/
theorem atCycleStart_endCycle (tok : Token) (s : State) : AtCycleStart (s.endCycle tok).nextEdge :=
  ⟨rfl, rfl, rfl, rfl, rfl⟩

/-- After a RainGauge sync 64 tokens, whatever they are, are the frame and give its outcome. -/
theorem steps_of_rgFrame {ds : List Nat} {ps : List PortIn} (hl : LegalRun s)
    (hp : s.phase = phaseCapRg) (hi : s.idx = 0#6) (hlen : ds.length = 64)
    (hin : Presents s (ds.map .token ++ ps)) :
    ∃ t, LegalSteps 64 s t [t.res] ∧ AtCycleStart t ∧ t.raw.toList = ds ∧
      t.res = tokenRegs (finishRgToken s.cfg ds) := by
  obtain ⟨u, hsteps, hphase, hidx, hr, hv, hframe, hraw⟩ :=
    steps_to_last_pulse (n := 63) hl hi hlen hin (.inl ⟨hp, le_rfl⟩)
  have hstep := step_finishRg hsteps.legalRun hr hv (hphase.trans hp) hidx
  rw [hframe, hsteps.cfg_eq] at hstep
  rw [List.drop_of_length_le (by simp), List.append_nil] at hraw
  exact ⟨_, hsteps.trans (.emits hsteps.legalRun hstep rfl), atCycleStart_endCycle _ _,
    by simpa [hidx, Vector.toList_set] using hraw, rfl⟩

/-- After an F007TP sync 39 tokens, whatever they are, are the frame and give its outcome. -/
theorem steps_of_f7Frame {ds : List Nat} {ps : List PortIn} (hl : LegalRun s)
    (hp : s.phase = phaseCapF7) (hi : s.idx = 0#6) (hlen : ds.length = 39)
    (hin : Presents s (ds.map .token ++ ps)) :
    ∃ t, LegalSteps 39 s t [t.res] ∧ AtCycleStart t ∧
      t.raw.toList = ds ++ s.raw.toList.drop 39 ∧ t.res = tokenRegs (finishF7Token s.cfg ds) := by
  obtain ⟨u, hsteps, hphase, hidx, hr, hv, hframe, hraw⟩ :=
    steps_to_last_pulse (n := 38) hl hi hlen hin (.inr ⟨hp, le_rfl⟩)
  have hstep := step_finishF7 hsteps.legalRun hr hv (hphase.trans hp) hidx
  rw [hframe, hsteps.cfg_eq] at hstep
  exact ⟨_, hsteps.trans (.emits hsteps.legalRun hstep rfl), atCycleStart_endCycle _ _,
    by simpa [hidx, Vector.toList_set] using hraw, rfl⟩

end Sys2Proof.Machine
end

section
/-! The round trips: what R87's macros write is what the core packs, checks and extracts. First a frame as
the list of its bits, then the fields, then the two protocols' frames and the statements settled. -/

namespace Sys2Proof.Machine

/-! ## A frame as the list of its bits (00_scope.md R11) -/

section Bits

variable {n a b i : Nat} {bits : List Bool}

theorem toNat_frame_of_bits (hlen : bits.length = n) :
    (BitVec.ofNat n (bitsValue bits)).toNat = bitsValue bits := by
  rw [BitVec.toNat_ofNat, Nat.mod_eq_of_lt (hlen ▸ bitsValue_lt_two_pow_length bits)]

/-- The frame that a list of bits is packed to has these bits, the first received first. -/
theorem frameBit_of_bits (hlen : bits.length = n) (hi : i < bits.length) :
    frameBit (BitVec.ofNat n (bitsValue bits)) i = bits[i] := by
  rw [frameBit, BitVec.getMsbD_eq_getLsbD, ← BitVec.testBit_toNat, toNat_frame_of_bits hlen,
    testBit_bitsValue, List.getD_eq_getElem _ _ (by simp; omega), List.getElem_reverse]
  simp [show i < n by omega, show bits.length - 1 - (n - 1 - i) = i by omega]

/-- A slice of the frame is the slice of the list. -/
theorem frameBits_of_bits (hlen : bits.length = n) (hb : b < n) :
    frameBits (BitVec.ofNat n (bitsValue bits)) a b = (bits.drop a).take (b + 1 - a) := by
  apply List.ext_getElem
  · simp
    omega
  · intro i hi hi'
    rw [length_frameBits] at hi
    simp only [frameBits, List.getElem_map, List.getElem_range', one_mul, List.getElem_take,
      List.getElem_drop]
    exact frameBit_of_bits hlen (by omega)

/-- Packed one after another, two lists of bits are the concatenation of what each is packed to. -/
theorem frame_of_append (m : Nat) (xs ys : List Bool) (hlen : ys.length = n) :
    BitVec.ofNat (m + n) (bitsValue (xs ++ ys)) =
      BitVec.ofNat m (bitsValue xs) ++ BitVec.ofNat n (bitsValue ys) := by
  apply BitVec.eq_of_getLsbD_eq
  intro i hi
  rw [BitVec.getLsbD_append, BitVec.getLsbD_ofNat, BitVec.getLsbD_ofNat, BitVec.getLsbD_ofNat,
    testBit_bitsValue, testBit_bitsValue, testBit_bitsValue, List.reverse_append]
  obtain hlow | hhigh := Nat.lt_or_ge i n
  · rw [List.getD_append _ _ _ _ (by simpa [hlen] using hlow)]
    simp [hi, hlow]
  · rw [List.getD_append_right _ _ _ _ (by simpa [hlen] using hhigh)]
    simp [hi, hlen, Nat.not_lt.2 hhigh, show i - n < m by omega]

/-- The n lowest bits of a number have it mod 2^n for their value. -/
theorem bitsValue_numberBits (n v : Nat) : bitsValue (numberBits n v) = v % 2 ^ n := by
  apply Nat.eq_of_testBit_eq
  intro i
  rw [testBit_bitsValue, Nat.testBit_mod_two_pow]
  obtain hi | hi := Nat.lt_or_ge i n
  · rw [List.getD_eq_getElem _ _ (by simpa [numberBits] using hi)]
    simp [numberBits, hi, show n - 1 - (n - 1 - i) = i by omega]
  · rw [List.getD_eq_default _ _ (by simpa [numberBits] using hi)]
    simp [Nat.not_lt.2 hi]

/-- A byte's bits are the eight lowest of its value. -/
theorem byteBits_eq_numberBits (b : Byte) : byteBits b = numberBits 8 b.toNat := by
  refine List.map_congr_left fun i hi => ?_
  have hi : i < 8 := List.mem_range.1 hi
  simp [BitVec.getMsbD_eq_getLsbD, BitVec.getLsbD, hi]

theorem bitsValue_byteBits (b : Byte) : bitsValue (byteBits b) = b.toNat := by
  rw [byteBits_eq_numberBits, bitsValue_numberBits, Nat.mod_eq_of_lt b.isLt]

/-- Durations whose classes give the bits they were written for pack to these bits. -/
theorem classBits_map {cls : Nat → PulseClass} {pulse : Bool → Nat}
    (h : ∀ b, bitval (cls (pulse b)) = some b) (bits : List Bool) :
    classBits cls (bits.map pulse) = some bits := by
  induction bits with
  | nil => rfl
  | cons b bs ih => simp [classBits, h, ih]

end Bits

/-! ## The RainGauge frame (30_encoding.md R87, 42_frame_decoder.md R144, 43_integrity.md R160) -/

/-- The 64 frame bits of eight bytes, bit 7 of the first byte first (20_memory.md R53). -/
def bytesFrame (bs : List Byte) : BitVec 64 := BitVec.ofNat 64 (bitsValue (bs.flatMap byteBits))

@[simp] theorem length_byteBits (b : Byte) : (byteBits b).length = 8 := by simp [byteBits]

theorem length_flatMap_byteBits (bs : List Byte) :
    (bs.flatMap byteBits).length = 8 * bs.length := by
  induction bs with
  | nil => rfl
  | cons b bs ih =>
    rw [List.flatMap_cons, List.length_append, ih, length_byteBits, List.length_cons]
    omega

/-- The k-th eight of the bits of a list of bytes are the k-th byte's. -/
theorem byteBits_slice {bs : List Byte} {k : Nat} (hk : k < bs.length) :
    ((bs.flatMap byteBits).drop (8 * k)).take 8 = byteBits bs[k] := by
  induction bs generalizing k with
  | nil => simp at hk
  | cons b bs ih =>
    cases k with
    | zero => simp [List.take_left']
    | succ k =>
      rw [List.flatMap_cons, Nat.mul_succ, Nat.add_comm, ← List.drop_drop,
        List.drop_left' (length_byteBits b)]
      exact ih (by simpa using hk)

theorem frameByte_bytesFrame {bs : List Byte} {k : Nat} (hlen : bs.length = 8)
    (hk : k < bs.length) : frameByte (bytesFrame bs) k = bs[k] := by
  have hbits : (bs.flatMap byteBits).length = 64 := by rw [length_flatMap_byteBits, hlen]
  apply BitVec.eq_of_toNat_eq
  rw [toNat_frameByte, val, bytesFrame, frameBits_of_bits hbits (by omega),
    show 8 * k + 7 + 1 - 8 * k = 8 by omega, byteBits_slice hk, bitsValue_byteBits]

/-- A byte packed after other bits is appended to what they are packed to. -/
theorem frame_append_byte {m : Nat} {xs : List Bool} {w : BitVec m}
    (hw : BitVec.ofNat m (bitsValue xs) = w) (b : Byte) :
    BitVec.ofNat (m + 8) (bitsValue (xs ++ byteBits b)) = w ++ b := by
  rw [frame_of_append m xs _ (length_byteBits b), hw, bitsValue_byteBits, BitVec.ofNat_toNat,
    BitVec.setWidth_eq]

theorem bytesFrame_eq_append (b0 b1 b2 b3 b4 b5 b6 b7 : Byte) :
    bytesFrame [b0, b1, b2, b3, b4, b5, b6, b7] = b0 ++ b1 ++ b2 ++ b3 ++ b4 ++ b5 ++ b6 ++ b7 := by
  have hfirst : BitVec.ofNat 8 (bitsValue (byteBits b0)) = b0 := by
    rw [bitsValue_byteBits, BitVec.ofNat_toNat, BitVec.setWidth_eq]
  simpa [bytesFrame] using
    frame_append_byte (frame_append_byte (frame_append_byte (frame_append_byte (frame_append_byte
      (frame_append_byte (frame_append_byte hfirst b1) b2) b3) b4) b5) b6) b7

theorem payloadChecksum_eq_sum (bs : List Byte) : payloadChecksum bs = bs.sum := by
  induction bs with
  | nil => rfl
  | cons b bs ih =>
    rw [List.sum_cons, ← ih, payloadChecksum, payloadChecksum, List.map_cons, List.sum_cons,
      BitVec.ofNat_add, BitVec.ofNat_toNat, BitVec.setWidth_eq]

/-- CHECKSUM_RG's accumulator is the sum of bytes 0 to 6. -/
theorem checksumRg_iff_sum (w : BitVec 64) :
    checksumRg w = true ↔ ((List.range 7).map (frameByte w)).sum = frameByte w 7 := by
  rw [checksumRg, decide_eq_true_eq, List.sum_eq_foldl, List.foldl_map]
  rfl

/-- Seven bytes and their checksum pass CHECKSUM_RG. -/
theorem checksumRg_bytesFrame {payload : List Byte} (hlen : payload.length = 7) :
    checksumRg (bytesFrame (payload ++ [payloadChecksum payload])) = true := by
  have hbyte (k : Nat) (hk : k < 8) :
      frameByte (bytesFrame (payload ++ [payloadChecksum payload])) k
        = (payload ++ [payloadChecksum payload])[k]'(by simp; omega) :=
    frameByte_bytesFrame (by simp [hlen]) (by simp; omega)
  have hpayload : (List.range 7).map
      (frameByte (bytesFrame (payload ++ [payloadChecksum payload]))) = payload := by
    apply List.ext_getElem
    · simp [hlen]
    · intro k hk hk'
      rw [List.getElem_map, List.getElem_range, hbyte k (by omega), List.getElem_append_left hk']
  rw [checksumRg_iff_sum, hpayload, hbyte 7 (by omega), ← payloadChecksum_eq_sum]
  simp [hlen]

/-- R86's RainGauge durations lie in their windows. -/
theorem bitval_rgPulse (b : Bool) :
    bitval (clsRg Config.default (if b then rS else rL)) = some b := by
  cases b <;> rfl

/-- The 64 pulses of a payload and its checksum are accepted. -/
theorem finishRgToken_of_payload {payload : List Byte} (hlen : payload.length = 7) :
    finishRgToken Config.default (rgBytes (payload ++ [payloadChecksum payload])) =
      .acceptRg (extractRg Config.default (bytesFrame (payload ++ [payloadChecksum payload]))) := by
  have hpack : packRg Config.default (rgBytes (payload ++ [payloadChecksum payload])) =
      some (bytesFrame (payload ++ [payloadChecksum payload])) := by
    rw [packRg, rgBytes, classBits_map bitval_rgPulse]
    rfl
  simp only [finishRgToken, hpack, judgeRg, checksumRg_bytesFrame hlen, if_true]

/-! ## The RainGauge fields (20_memory.md R54, 44_field_extractor.md R180 to R184) -/

section RgFields

variable {c : Config}

theorem bigEndian_eq_toNat (high low : Byte) : bigEndian high low = (high ++ low).toNat := by
  rw [BitVec.toNat_append, ← Nat.shiftLeft_add_eq_or_of_lt low.isLt, Nat.shiftLeft_eq]
  rfl

theorem littleEndian_eq_toNat (low high : Byte) : littleEndian low high = (high ++ low).toNat := by
  rw [← bigEndian_eq_toNat, littleEndian, bigEndian, Nat.add_comm]

/-- R8(k): the rainfall fits its 17 bits. -/
theorem rgRain_lt (hc : c.wellFormed = true) {raw : Nat} (hraw : raw < 2 ^ 16) :
    rgRain c raw < 2 ^ 17 := by
  obtain ⟨-, -, -, -, -, -, -, -, -, hrain, -⟩ := Config.wellFormed_iff_checks.1 hc
  have hmax := Config.rainFits_iff.1 hrain
  have hle : rgRain c raw ≤ ((2 ^ 16 - 1) + c.rgRainOffset) * c.rgRainNum / c.rgRainDen :=
    Nat.div_le_div_right (Nat.mul_le_mul_right _ (by omega))
  omega

/-- R8(j): the temperature's numerator fits its 17 bits, with the sign. -/
theorem toInt_rgTempNum (hc : c.wellFormed = true) {raw : Nat} (hraw : raw < 2 ^ 16) :
    (BitVec.ofInt 17 (rgTempNum c raw)).toInt = rgTempNum c raw := by
  obtain ⟨-, -, -, -, -, -, -, -, htemp, -⟩ := Config.wellFormed_iff_checks.1 hc
  have hmax := Config.tempFits_iff.1 htemp
  have hlow : -(2 ^ 16 : Int) ≤ rgTempNum c raw := by
    rw [rgTempNum]
    omega
  have hhigh : rgTempNum c raw < 2 ^ 16 := by
    rw [rgTempNum]
    omega
  rw [BitVec.toInt_ofInt]
  exact Int.bmod_eq_of_le (by omega) (by omega)

theorem rgTempNum_default (raw : Nat) : rgTempNum Config.default raw = (raw : Int) - 1220 := by
  simp only [rgTempNum, Config.default]
  omega

/-- EXTRACT_RG on eight bytes packed. -/
theorem extractRg_bytesFrame (b0 b1 b2 b3 b4 b5 b6 b7 : Byte) :
    extractRg c (bytesFrame [b0, b1, b2, b3, b4, b5, b6, b7]) =
      { bytes := bytesFrame [b0, b1, b2, b3, b4, b5, b6, b7]
        id := b0 ++ b1
        rainRaw := b4 ++ b3
        rain := BitVec.ofNat 17 (rgRain c (b4 ++ b3).toNat)
        tempRaw := b6 ++ b5
        tempNum := BitVec.ofInt 17 (rgTempNum c (b6 ++ b5).toNat)
        lowbat := b2.getLsbD 7
        reset := b2.getLsbD 6 } := by
  have hb (k : Nat) (hk : k < 8) := frameByte_bytesFrame (k := k)
    (bs := [b0, b1, b2, b3, b4, b5, b6, b7]) rfl hk
  simp only [extractRg, rgRainRaw, rgTempRaw, rgLowbat, rgReset, bigEndian_eq_toNat,
    littleEndian_eq_toNat, hb 0 (by omega), hb 1 (by omega), hb 2 (by omega), hb 3 (by omega),
    hb 4 (by omega), hb 5 (by omega), hb 6 (by omega),
    List.getElem_cons_zero, List.getElem_cons_succ, BitVec.ofNat_toNat, BitVec.setWidth_eq]

end RgFields

/-- From the start of a cycle the 65 tokens of RGFRAME give one token, the frame accepted. -/
theorem steps_of_rgRoundTrip {s : State} {payload : List Byte} {ps : List PortIn}
    (hlen : payload.length = 7) (hl : LegalRun s) (hcfg : s.cfg = Config.default)
    (hp : s.phase = phaseSearch) (hin : Presents s ((rgFrame payload).map .token ++ ps)) :
    ∃ t, LegalSteps 65 s t [t.res] ∧ AtCycleStart t ∧
      t.res = tokenRegs (.acceptRg (extractRg Config.default
        (bytesFrame (payload ++ [payloadChecksum payload])))) := by
  have hport : s.port = .token rY := hin.port
  have hstep := step_search hl (by rw [hport]; rfl) (by rw [hport]; rfl) hp
  have hsync : clsRg s.cfg s.port.inDur = .syncMarker := by
    rw [hcfg, hport]
    rfl
  rw [detect_of_syncMarker hsync] at hstep
  have hpulses : (rgBytes (payload ++ [payloadChecksum payload])).length = 64 := by
    simp [rgBytes, hlen]
  obtain ⟨t, hsteps, hcycle, -, hres⟩ :=
    steps_of_rgFrame (hl.step hstep) rfl rfl hpulses (hin.step hl.noRequest hstep)
  rw [cfg_of_step hstep, hcfg, finishRgToken_of_payload hlen] at hres
  exact ⟨t, .quiet hl hstep rfl hsteps, hcycle, hres⟩

/-- Settles O57. A sync marker, 64 pulses of a frame that passes its checksum, and its fields. -/
theorem rainGaugeFrameRoundTrip : Obligations.RainGaugeFrameRoundTrip := by
  unfold Obligations.RainGaugeFrameRoundTrip
  intro s b0 b1 b2 b3 b4 b5 b6 rest hl hcfg hstart hfeeds
  obtain ⟨t, hsteps, hcycle, hres⟩ := steps_of_rgRoundTrip rfl hl hcfg hstart.1 (.of_feeds hfeeds)
  refine ⟨t, hsteps.run_eq, hcycle, hsteps.emitted_eq, ?_⟩
  have hsum : payloadChecksum [b0, b1, b2, b3, b4, b5, b6] = b0 + b1 + b2 + b3 + b4 + b5 + b6 := by
    simp [payloadChecksum_eq_sum, BitVec.add_assoc]
  have hdefault : Config.default.wellFormed = true := hcfg ▸ hl.configFixed.2
  rw [List.cons_append, List.cons_append, List.cons_append, List.cons_append, List.cons_append,
    List.cons_append, List.cons_append, List.nil_append, extractRg_bytesFrame, hsum,
    bytesFrame_eq_append] at hres
  simp only [hres, tokenRegs, tokenStatus, tokenProto, protocolCode, tokenRg, tokenF7, true_and,
    and_true]
  refine ⟨?_, ?_⟩
  · rw [BitVec.toNat_ofNat, Nat.mod_eq_of_lt (rgRain_lt hdefault (b4 ++ b3).isLt)]
    rfl
  · rw [toInt_rgTempNum hdefault (b6 ++ b5).isLt, rgTempNum_default]

/-! ## The F007TP frame (30_encoding.md R87, 42_frame_decoder.md R146, 43_integrity.md R162 to R164) -/

/-- The 40 frame bits of a message `f[0..31]` and its CRC-8. -/
def f7Frame40 (message : List Bool) : BitVec 40 :=
  BitVec.ofNat 40 (bitsValue (message ++ byteBits (crcBits Config.default message)))

section F7

variable {message : List Bool} {id3 mag hum : Nat} {sign : Bool}

/-- A slice of the message, as it stands in the frame. -/
theorem frameBits_f7Frame40_message {a b : Nat} (hlen : message.length = 32) (hb : b < 32) :
    frameBits (f7Frame40 message) a b = (message.drop a).take (b + 1 - a) := by
  rw [f7Frame40, frameBits_of_bits (by simp [hlen]) (by omega)]
  obtain ha | ha := Nat.le_total a 32
  · rw [List.drop_append_of_le_length (by omega), List.take_append_of_le_length (by simp; omega)]
  · simp [show b + 1 - a = 0 by omega]

/-- The CRC the frame carries is that of its message. -/
theorem crcMatches_f7Frame40 (hlen : message.length = 32) :
    crcMatches (crc8F7 Config.default (f7Frame40 message)) (f7Frame40 message) = true := by
  have hmessage : frameBits (f7Frame40 message) 0 31 = message := by
    rw [frameBits_f7Frame40_message hlen (by omega), List.drop_zero,
      List.take_of_length_le (by omega)]
  have hcrc : frameBits (f7Frame40 message) 32 39 = byteBits (crcBits Config.default message) := by
    rw [f7Frame40, frameBits_of_bits (by simp [hlen]) (by omega), List.drop_left' hlen,
      List.take_of_length_le (by simp)]
  rw [crcMatches, decide_eq_true_eq, crc8F7, hmessage, val, hcrc, bitsValue_byteBits]

theorem length_f7Message : (f7Message id3 sign mag hum).length = 32 := by
  simp [f7Message, numberBits]

/-- R87's header is the fixed pattern of R162. -/
theorem headerF7_of_message :
    headerF7 Config.default (f7Frame40 (f7Message id3 sign mag hum)) = true := by
  rw [headerF7, decide_eq_true_eq, frameBits_f7Frame40_message length_f7Message (by omega)]
  rfl

/-- R86's F007TP durations lie in their windows. -/
theorem bitval_f7Pulse (b : Bool) :
    bitval (clsF7 Config.default (if b then fS else fL)) = some b := by
  cases b <;> rfl

/-- The 39 pulses of a reading's frame are accepted: `f[0]` is the implicit 0 of R146. -/
theorem finishF7Token_of_message :
    finishF7Token Config.default (f7Bits ((f7Message id3 sign mag hum).tail ++
        byteBits (crcBits Config.default (f7Message id3 sign mag hum)))) =
      .acceptF7 (extractF7 Config.default (f7Frame40 (f7Message id3 sign mag hum))) := by
  have hpack : packF7 Config.default (f7Bits ((f7Message id3 sign mag hum).tail ++
      byteBits (crcBits Config.default (f7Message id3 sign mag hum)))) =
      some (f7Frame40 (f7Message id3 sign mag hum)) := by
    rw [packF7, f7Bits, classBits_map bitval_f7Pulse]
    rfl
  simp only [finishF7Token, hpack, judgeF7, headerF7_of_message,
    crcMatches_f7Frame40 length_f7Message, if_true]

/-! ## The F007TP fields (44_field_extractor.md R187 to R192) -/

/-- A field of a reading is found in the slice of the frame it was written to. -/
theorem val_of_message {a b n v : Nat} (hb : b < 32) (hv : v < 2 ^ n)
    (hslice : ((f7Message id3 sign mag hum).drop a).take (b + 1 - a) = numberBits n v) :
    val (f7Frame40 (f7Message id3 sign mag hum)) a b = v := by
  rw [val, frameBits_f7Frame40_message length_f7Message hb, hslice, bitsValue_numberBits,
    Nat.mod_eq_of_lt hv]

theorem f7Sign_of_message : f7Sign (f7Frame40 (f7Message id3 sign mag hum)) = sign := by
  rw [f7Sign, f7Frame40, frameBit_of_bits (by simp [length_f7Message]) (by simp [length_f7Message])]
  rfl

/-- EXTRACT_F7 on a reading's frame. -/
theorem extractF7_of_message (hid : id3 < 8) (hmag : mag < 2048) (hhum : hum < 256) :
    extractF7 Config.default (f7Frame40 (f7Message id3 sign mag hum)) =
      { bits := f7Frame40 (f7Message id3 sign mag hum)
        id := BitVec.ofNat 4 (id3 + 1)
        sign := sign
        mag := BitVec.ofNat 11 mag
        int := BitVec.ofNat 8 (mag / 10)
        frac := BitVec.ofNat 4 (mag % 10)
        hum := BitVec.ofNat 8 hum } := by
  simp only [extractF7, f7Sign_of_message,
    val_of_message (a := 5) (b := 7) (n := 3) (by omega) hid rfl,
    val_of_message (a := 13) (b := 23) (n := 11) (by omega) hmag rfl,
    val_of_message (a := 24) (b := 31) (n := 8) (by omega) hhum rfl]
  rfl

end F7

/-- From the start of a cycle the n + 40 tokens of F7FRAME give one token, the frame accepted. The run of
shorts may use up all attempts but the one the long pulse syncs on. -/
theorem steps_of_f7RoundTrip {s : State} {n id3 mag hum : Nat} {sign : Bool} {ps : List PortIn}
    (hl : LegalRun s) (hcfg : s.cfg = Config.default) (hstart : AtCycleStart s) (hlow : 4 ≤ n)
    (hhigh : n < 10000) (hin : Presents s ((f7Frame n id3 sign mag hum).map .token ++ ps)) :
    ∃ t, LegalSteps (n + 40) s t [t.res] ∧ AtCycleStart t ∧
      t.res = tokenRegs (.acceptF7 (extractF7 Config.default
        (f7Frame40 (f7Message id3 sign mag hum)))) := by
  have hin' : Presents s ((List.replicate n fS ++ [fL]).map .token ++ ((f7Bits
      ((f7Message id3 sign mag hum).tail ++
        byteBits (crcBits Config.default (f7Message id3 sign mag hum)))).map .token ++ ps)) := by
    simpa only [f7Frame, List.map_append, List.append_assoc] using hin
  have hshort : ∀ d ∈ List.replicate n fS,
      clsF7 s.cfg d = .shortBit ∧ clsRg s.cfg d ≠ .syncMarker := by
    rw [hcfg]
    exact fun d hd => List.eq_of_mem_replicate hd ▸ by decide
  obtain ⟨u, hpreamble, hphase, hidx⟩ := steps_of_preamble hl hstart hin' hshort
    (by rw [hcfg]; rfl) (by rw [hcfg]; decide)
    (by rw [hcfg, List.length_replicate]; exact hlow)
    (by rw [hcfg, List.length_replicate]; exact hhigh)
  have hpulses := hpreamble.presents hin'
  rw [List.drop_left' (by simp)] at hpulses
  obtain ⟨t, hframe, hcycle, -, hres⟩ := steps_of_f7Frame hpreamble.legalRun hphase hidx
    (by simp [f7Bits, length_f7Message]) hpulses
  rw [hpreamble.cfg_eq, hcfg, finishF7Token_of_message] at hres
  have hsteps := hpreamble.trans hframe
  rw [List.length_replicate] at hsteps
  exact ⟨t, hsteps, hcycle, hres⟩

/-- Settles O58. A preamble and its sync, 39 pulses of a frame that passes its checks, and its fields. -/
theorem f007TPFrameRoundTrip : Obligations.F007TPFrameRoundTrip := by
  unfold Obligations.F007TPFrameRoundTrip
  intro s n id3 sign mag hum rest hl hcfg hstart hlow hhigh hid hmag hhum hfeeds
  obtain ⟨t, hsteps, hcycle, hres⟩ :=
    steps_of_f7RoundTrip hl hcfg hstart hlow hhigh (.of_feeds hfeeds)
  refine ⟨t, hsteps.run_eq, hcycle, hsteps.emitted_eq, ?_⟩
  rw [extractF7_of_message hid hmag hhum] at hres
  simp only [hres, tokenRegs, tokenStatus, tokenProto, protocolCode, tokenRg, tokenF7, true_and,
    BitVec.toNat_ofNat]
  omega

end Sys2Proof.Machine
end

section
/-! What 40_classifier.md says of the two classifiers (R101, R102, R105): each test read as its window,
the windows told apart by 00_scope.md R8(c) and (d), and the statements settled. -/

namespace Sys2Proof.Machine

section Classes

variable {c : Config} {d : Nat}

/-! ## The class of a duration, by the tests in their order -/

theorem clsRg_eq_shortBit_iff :
    clsRg c d = .shortBit ↔ c.rgShortMin < d ∧ d < c.rgShortMax := by
  simp only [clsRg, ← inWindow_eq_true_iff]
  split_ifs <;> simp_all

theorem clsRg_eq_longBit_iff : clsRg c d = .longBit ↔
    ¬ (c.rgShortMin < d ∧ d < c.rgShortMax) ∧ (c.rgLongMin < d ∧ d < c.rgLongMax) := by
  simp only [clsRg, ← inWindow_eq_true_iff]
  split_ifs <;> simp_all

theorem clsRg_eq_syncMarker_iff : clsRg c d = .syncMarker ↔
    (¬ (c.rgShortMin < d ∧ d < c.rgShortMax) ∧ ¬ (c.rgLongMin < d ∧ d < c.rgLongMax)) ∧
      (c.rgSyncMin < d ∧ d < c.rgSyncMax) := by
  simp only [clsRg, ← inWindow_eq_true_iff]
  split_ifs <;> simp_all

theorem clsRg_eq_invalid_iff : clsRg c d = .invalid ↔
    ¬ (c.rgShortMin < d ∧ d < c.rgShortMax) ∧ ¬ (c.rgLongMin < d ∧ d < c.rgLongMax) ∧
      ¬ (c.rgSyncMin < d ∧ d < c.rgSyncMax) := by
  simp only [clsRg, ← inWindow_eq_true_iff]
  split_ifs <;> simp_all

theorem clsF7_eq_shortBit_iff :
    clsF7 c d = .shortBit ↔ c.f7ShortMin < d ∧ d < c.f7ShortMax := by
  simp only [clsF7, ← inWindow_eq_true_iff]
  split_ifs <;> simp_all

theorem clsF7_eq_longBit_iff : clsF7 c d = .longBit ↔
    ¬ (c.f7ShortMin < d ∧ d < c.f7ShortMax) ∧ (c.f7LongMin < d ∧ d < c.f7LongMax) := by
  simp only [clsF7, ← inWindow_eq_true_iff]
  split_ifs <;> simp_all

theorem clsF7_eq_invalid_iff : clsF7 c d = .invalid ↔
    ¬ (c.f7ShortMin < d ∧ d < c.f7ShortMax) ∧ ¬ (c.f7LongMin < d ∧ d < c.f7LongMax) := by
  simp only [clsF7, ← inWindow_eq_true_iff]
  split_ifs <;> simp_all

/-- The F007TP set has no sync window (R102). -/
theorem clsF7_ne_syncMarker : clsF7 c d ≠ .syncMarker := by
  unfold clsF7
  split_ifs <;> exact nofun

/-! ## Windows that R8 keeps apart -/

/-- No duration lies in both of two disjoint windows. -/
theorem not_in_second_of_openDisjoint {min₁ max₁ min₂ max₂ : Nat}
    (h : openDisjoint min₁ max₁ min₂ max₂ = true) (h₁ : min₁ < d ∧ d < max₁) :
    ¬ (min₂ < d ∧ d < max₂) := by
  rw [openDisjoint_iff] at h
  omega

/-- R8(c) under R8: each pair of the RainGauge windows is disjoint. -/
theorem rgWindows_disjoint (hc : c.wellFormed = true) :
    openDisjoint c.rgShortMin c.rgShortMax c.rgLongMin c.rgLongMax = true ∧
      openDisjoint c.rgShortMin c.rgShortMax c.rgSyncMin c.rgSyncMax = true ∧
      openDisjoint c.rgLongMin c.rgLongMax c.rgSyncMin c.rgSyncMax = true := by
  obtain ⟨-, -, ⟨hrg, -⟩, -⟩ := Config.wellFormed_iff_checks.1 hc
  simpa only [Config.rgDisjoint, Bool.and_eq_true, and_assoc] using hrg

/-- R8(d) under R8. -/
theorem f7Windows_disjoint (hc : c.wellFormed = true) :
    openDisjoint c.f7ShortMin c.f7ShortMax c.f7LongMin c.f7LongMax = true := by
  obtain ⟨-, -, ⟨-, hf7⟩, -⟩ := Config.wellFormed_iff_checks.1 hc
  exact hf7

/-- R8(e): the sentinel lies in no window, so both classifiers call it Invalid. -/
theorem cls_sentinel (hc : c.wellFormed = true) :
    clsRg c c.sentinel = .invalid ∧ clsF7 c c.sentinel = .invalid := by
  obtain ⟨-, -, -, hsentinel, -⟩ := Config.wellFormed_iff_checks.1 hc
  have hout := Config.sentinelOutside_iff.1 hsentinel
  simp only [List.forall_mem_cons] at hout
  obtain ⟨hrs, hrl, hry, hfs, hfl, -⟩ := hout
  exact ⟨clsRg_eq_invalid_iff.2 ⟨hrs, hrl, hry⟩, clsF7_eq_invalid_iff.2 ⟨hfs, hfl⟩⟩

/-! ## The comparator bank and the lookup table (R105) -/

/-- The two magnitude comparators of a lane are the window's test (R100). -/
theorem windowLane_eq_inWindow (d min max : Nat) : windowLane d min max = inWindow d min max := rfl

/-- The lane of a window excludes the lane of a window disjoint from it. -/
theorem windowLane_excludes {min₁ max₁ min₂ max₂ : Nat}
    (h : openDisjoint min₁ max₁ min₂ max₂ = true) :
    windowLane d min₁ max₁ = true → windowLane d min₂ max₂ = false := by
  simpa only [windowLane_eq_inWindow, inWindow_eq_true_iff, inWindow_eq_false_iff]
    using not_in_second_of_openDisjoint h

/-- Of lanes that each exclude the later ones, at most one is raised. -/
theorem count_true_le_one {lanes : List Bool}
    (h : lanes.Pairwise fun a b => a = true → b = false) : lanes.count true ≤ 1 := by
  induction h with
  | nil => exact Nat.zero_le 1
  | @cons lane lanes hexcl _ ih =>
    cases lane with
    | false => simpa using ih
    | true =>
      have hrest : lanes.count true = 0 :=
        List.count_eq_zero.2 fun hmem => Bool.noConfusion (hexcl true hmem rfl)
      simp [hrest]

theorem count_rgLanes_le_one (hc : c.wellFormed = true) : (rgLanes c d).count true ≤ 1 := by
  obtain ⟨hshortLong, hshortSync, hlongSync⟩ := rgWindows_disjoint hc
  apply count_true_le_one
  simp only [rgLanes, List.pairwise_cons, List.forall_mem_cons, List.not_mem_nil, false_imp_iff,
    implies_true, and_true, List.Pairwise.nil]
  exact ⟨⟨windowLane_excludes hshortLong, windowLane_excludes hshortSync⟩,
    windowLane_excludes hlongSync⟩

theorem count_f7Lanes_le_one (hc : c.wellFormed = true) : (f7Lanes c d).count true ≤ 1 := by
  apply count_true_le_one
  rw [f7Lanes, List.pairwise_pair]
  exact windowLane_excludes (f7Windows_disjoint hc)

/-- The encoder's priority is the order of the classifier's tests, so they agree under any
configuration. -/
theorem laneCode_rgLanes (c : Config) (d : Nat) :
    laneCode (rgLanes c d) = classCode (clsRg c d) := by
  simp only [clsRg, apply_ite classCode]
  rfl

theorem laneCode_f7Lanes (c : Config) (d : Nat) :
    laneCode (f7Lanes c d) = classCode (clsF7 c d) := by
  simp only [clsF7, apply_ite classCode]
  rfl

theorem rgTable_getElem? (h : d < 2 ^ c.durW) : (rgTable c)[d]? = some (clsRg c d) := by
  simp [rgTable, h]

theorem f7Table_getElem? (h : d < 2 ^ c.durW) : (f7Table c)[d]? = some (clsF7 c d) := by
  simp [f7Table, h]

end Classes

/-- Settles O11. Past the first, each test follows from its window alone: the windows are disjoint. -/
theorem rainGaugeClassFollowsWindows : Obligations.RainGaugeClassFollowsWindows := by
  unfold Obligations.RainGaugeClassFollowsWindows
  intro c d hc
  obtain ⟨hshortLong, hshortSync, hlongSync⟩ := rgWindows_disjoint hc
  refine ⟨clsRg_eq_shortBit_iff, ?_, ?_, clsRg_eq_invalid_iff, (cls_sentinel hc).1⟩
  · exact clsRg_eq_longBit_iff.trans <| and_iff_right_of_imp fun hlong hshort =>
      not_in_second_of_openDisjoint hshortLong hshort hlong
  · exact clsRg_eq_syncMarker_iff.trans <| and_iff_right_of_imp fun hsync =>
      ⟨fun hshort => not_in_second_of_openDisjoint hshortSync hshort hsync,
        fun hlong => not_in_second_of_openDisjoint hlongSync hlong hsync⟩

/-- Settles O12. -/
theorem f007TPClassFollowsWindows : Obligations.F007TPClassFollowsWindows := by
  unfold Obligations.F007TPClassFollowsWindows
  intro c d hc
  refine ⟨clsF7_eq_shortBit_iff, ?_, clsF7_eq_invalid_iff, clsF7_ne_syncMarker,
    (cls_sentinel hc).2⟩
  exact clsF7_eq_longBit_iff.trans <| and_iff_right_of_imp fun hlong hshort =>
    not_in_second_of_openDisjoint (f7Windows_disjoint hc) hshort hlong

/-- Settles O14. Only the lanes being one-hot needs the windows disjoint. -/
theorem comparatorBankIsClassifier : Obligations.ComparatorBankIsClassifier := by
  unfold Obligations.ComparatorBankIsClassifier
  intro c d hc
  exact ⟨count_rgLanes_le_one hc, count_f7Lanes_le_one hc, laneCode_rgLanes c d,
    laneCode_f7Lanes c d, fun hd => ⟨rgTable_getElem? hd, f7Table_getElem? hd⟩⟩

/-! ## The units evaluated on their own (log 9) -/

/-- Settles O13. -/
theorem classifyShowsClassOfToken : Obligations.ClassifyShowsClassOfToken := by
  unfold Obligations.ClassifyShowsClassOfToken
  intro s hc hfits
  exact ⟨exec_classifyRg_eq_next_iff.2 ⟨hc, hfits, rfl⟩,
    exec_classifyF7_eq_next_iff.2 ⟨hc, hfits, rfl⟩⟩

/-- A combinational unit's next state is the state before with other nets and the request taken. -/
theorem exec_unit_eq_showNets {i : Instr} {s t : State}
    (hi : i ∈ [.classifyRg, .classifyF7, .packRg, .packF7, .checksumRg, .headerF7, .crc8F7,
      .extractRg, .extractF7])
    (h : exec i s = .next t) : ∃ nets, (s.showNets nets).takeRequest = t := by
  cases i with
  | classifyRg =>
    obtain ⟨-, -, ht⟩ := exec_classifyRg_eq_next_iff.1 h
    exact ⟨_, ht⟩
  | classifyF7 =>
    obtain ⟨-, -, ht⟩ := exec_classifyF7_eq_next_iff.1 h
    exact ⟨_, ht⟩
  | packRg =>
    obtain ⟨-, -, -, ht⟩ := exec_packRg_eq_next_iff.1 h
    exact ⟨_, ht⟩
  | packF7 =>
    obtain ⟨-, -, -, ht⟩ := exec_packF7_eq_next_iff.1 h
    exact ⟨_, ht⟩
  | checksumRg =>
    obtain ⟨-, ht⟩ := exec_checksumRg_eq_next_iff.1 h
    exact ⟨_, ht⟩
  | headerF7 =>
    obtain ⟨-, ht⟩ := exec_headerF7_eq_next_iff.1 h
    exact ⟨_, ht⟩
  | crc8F7 =>
    obtain ⟨-, ht⟩ := exec_crc8F7_eq_next_iff.1 h
    exact ⟨_, ht⟩
  | extractRg =>
    obtain ⟨-, ht⟩ := exec_extractRg_eq_next_iff.1 h
    exact ⟨_, ht⟩
  | extractF7 =>
    obtain ⟨-, ht⟩ := exec_extractF7_eq_next_iff.1 h
    exact ⟨_, ht⟩
  | _ => exact absurd hi (by decide)

/-- Settles O52. -/
theorem combinationalUnitsWriteNoRegister : Obligations.CombinationalUnitsWriteNoRegister := by
  unfold Obligations.CombinationalUnitsWriteNoRegister
  intro i s t hi h
  obtain ⟨nets, rfl⟩ := exec_unit_eq_showNets hi h
  simp

end Sys2Proof.Machine
end

section
/-! What 41_detector.md says of the search: DETECT_STEP as its cases (R121) and as the Mealy table (R132),
the sync on a RainGauge marker (R123, R124, R129), the F007TP preamble (R125 to R127) and the search that
times out (R122, R128). -/

namespace Sys2Proof.Machine

variable {s : State} {d : Nat}

/-! ## The cases of a search step (R121) -/

/-- Where R82 selects it, DETECT_STEP completes, with the next state of its cases. -/
theorem exec_detectStep_of_search (hc : ConfigFixed s) (ht : TokenEdge s)
    (hp : s.phase = phaseSearch) (hrange : RegistersInRange s) :
    exec .detectStep s = .next (detect s s.port.inDur).nextEdge := by
  obtain ⟨hr, hv, hfits⟩ := ht
  have hs : select s = .ok .detectStep := by
    rw [select_of_token hr hv hrange, tokenOp_eq_detectStep_iff.2 hp]
  exact exec_detectStep_eq_next_iff.2 ⟨hc, hs, hfits, rfl⟩

/-- Case T: a pulse that does not sync on the last attempt ends the cycle. -/
theorem detect_of_lastAttempt (hrg : clsRg s.cfg d ≠ .syncMarker)
    (hrun : ¬ (clsF7 s.cfg d = .longBit ∧ s.cfg.preambleRun < s.cnt.toNat))
    (hatt : s.att + 1 = s.cfg.maxAttempts) : detect s d = s.endCycle .timeout := by
  rw [detect, if_neg hrg, if_neg hrun, if_pos hatt]

/-- Cases S and Z: any other pulse is counted as an attempt, and lengthens or clears the run. -/
theorem detect_of_attempt (hrg : clsRg s.cfg d ≠ .syncMarker)
    (hrun : ¬ (clsF7 s.cfg d = .longBit ∧ s.cfg.preambleRun < s.cnt.toNat))
    (hatt : s.att + 1 ≠ s.cfg.maxAttempts) :
    detect s d =
      (s.countAttempt (nextRun (clsF7 s.cfg d) s.cnt.toNat s.cfg.cntMax)).clearResult := by
  rw [detect, if_neg hrg, if_neg hrun, if_neg hatt]

theorem nextRun_of_short {cls : PulseClass} (h : cls = .shortBit) (cnt cntMax : Nat) :
    nextRun cls cnt cntMax = min (cnt + 1) cntMax := if_pos h

theorem nextRun_of_not_short {cls : PulseClass} (h : cls ≠ .shortBit) (cnt cntMax : Nat) :
    nextRun cls cnt cntMax = 0 := if_neg h

/-- Settles O15. -/
theorem detectStepFollowsItsCases : Obligations.DetectStepFollowsItsCases := by
  unfold Obligations.DetectStepFollowsItsCases
  intro s hc ht hp hrange
  have hexec := exec_detectStep_of_search hc ht hp hrange
  obtain ⟨hcfg, hbuilt⟩ := (stepEffect_of_exec hexec).2.cfg_built
  refine ⟨_, hexec, hcfg, hbuilt, ?_⟩
  rw [State.nextEdge_arch]
  split_ifs with hY hP hT hS
  · rw [detect_of_syncMarker hY]
    rfl
  · rw [detect_of_preamble hY hP.1 hP.2]
    rfl
  · rw [detect_of_lastAttempt hY hP hT]
    rfl
  · rw [detect_of_attempt hY hP hT, nextRun_of_short hS]
    rfl
  · rw [detect_of_attempt hY hP hT, nextRun_of_not_short hS]
    rfl

/-! ## The Mealy table (R132) -/

/-- On an attempt within the limit, the table's rows for S and Z are one row and its last is case T. -/
theorem mealyRow_of_att_lt {c : Config} {r cls : PulseClass} {cnt att : Nat}
    (hatt : att < c.maxAttempts) :
    mealyRow c r cls cnt att =
      if r = .syncMarker then ⟨phaseCapRg, 0, 0, none⟩
      else if cls = .longBit ∧ c.preambleRun < cnt then ⟨phaseCapF7, 0, 0, none⟩
      else if att + 1 = c.maxAttempts then ⟨phaseSearch, 0, 0, some .timeout⟩
      else ⟨phaseSearch, nextRun cls cnt c.cntMax, att + 1, none⟩ := by
  unfold mealyRow
  refine if_congr Iff.rfl rfl (if_congr Iff.rfl rfl ?_)
  by_cases hT : att + 1 = c.maxAttempts
  · simp [hT]
  · have hlt : att + 1 < c.maxAttempts := by omega
    by_cases hS : cls = .shortBit
    · simp [hT, hlt, hS, nextRun_of_short]
    · simp [hT, hlt, hS, nextRun_of_not_short]

/-- In SEARCH the attempts made are fewer than the limit. -/
theorem att_lt_of_search (h : RegistersInRange s) (hsearch : s.phase = phaseSearch) :
    s.att < s.cfg.maxAttempts := by
  obtain ⟨-, -, -, hatt⟩ | ⟨hphase, -⟩ | ⟨hphase, -⟩ := h
  · exact hatt
  · exact absurd (hsearch.symm.trans hphase) phaseSearch_ne_capRg
  · exact absurd (hsearch.symm.trans hphase) phaseSearch_ne_capF7

/-- Under R8(g) the run counter holds the next run without loss. -/
theorem toNat_nextRun (hc : ConfigFixed s) (cls : PulseClass) (cnt : Nat) :
    (BitVec.ofNat 3 (nextRun cls cnt s.cfg.cntMax)).toNat = nextRun cls cnt s.cfg.cntMax := by
  rw [← min_eq_left (nextRun_le cls cnt s.cfg.cntMax)]
  exact toNat_saturatedRun hc _

/-- Settles O16. -/
theorem detectorIsMealyTable : Obligations.DetectorIsMealyTable := by
  unfold Obligations.DetectorIsMealyTable
  intro s hc ht hp hrange row
  have hrow : row = _ := mealyRow_of_att_lt (att_lt_of_search hrange hp)
  have hidx : s.idx = 0#6 := idx_eq_zero_of_search hrange hp
  refine ⟨_, exec_detectStep_of_search hc ht hp hrange, ?_⟩
  rw [hrow]
  split_ifs with hY hP hT
  · rw [detect_of_syncMarker hY]
    exact ⟨rfl, rfl, rfl, rfl, rfl, rfl⟩
  · rw [detect_of_preamble hY hP.1 hP.2]
    exact ⟨rfl, rfl, rfl, rfl, rfl, rfl⟩
  · rw [detect_of_lastAttempt hY hP hT]
    exact ⟨rfl, rfl, rfl, rfl, rfl, rfl⟩
  · rw [detect_of_attempt hY hP hT]
    exact ⟨hp, toNat_nextRun hc _ _, rfl, hidx, rfl, rfl⟩

/-! ## The sync on a RainGauge marker (R123, R124, R129) -/

/-- Settles O17. Case Y comes first, and reads neither counter. -/
theorem syncMarkerSyncsRegardlessOfHistory : Obligations.SyncMarkerSyncsRegardlessOfHistory := by
  unfold Obligations.SyncMarkerSyncsRegardlessOfHistory
  intro s hl ht hp hmin hmax
  obtain ⟨hr, hv, -⟩ := ht
  obtain ⟨-, -, hsync, -⟩ := rainGaugeClassFollowsWindows s.cfg s.port.inDur hl.configFixed.2
  have hstep := step_search hl hr hv hp
  rw [detect_of_syncMarker (hsync.2 ⟨hmin, hmax⟩)] at hstep
  exact ⟨_, hstep, rfl, rfl, rfl, rfl, rfl⟩

/-! ## One pulse of a search in a run -/

theorem step_search_token (hl : LegalRun s) (hport : s.port = .token d) (hp : s.phase = phaseSearch) :
    step s = .next (detect s d).nextEdge := by
  rw [step_search hl (by rw [hport]; rfl) (by rw [hport]; rfl) hp, hport, PortIn.token]

/-! ## The preamble (R125 to R127) -/

/-- After a run of short pulses that is too short, the long pulse only clears the run. -/
theorem steps_of_shortPreamble {shorts : List Nat} {long : Nat} {ps : List PortIn} (hl : LegalRun s)
    (hstart : AtCycleStart s) (hin : Presents s ((shorts ++ [long]).map .token ++ ps))
    (hshort : ∀ d ∈ shorts, clsF7 s.cfg d = .shortBit ∧ clsRg s.cfg d ≠ .syncMarker)
    (hf7 : clsF7 s.cfg long = .longBit) (hrg : clsRg s.cfg long ≠ .syncMarker)
    (hrun : shorts.length ≤ s.cfg.preambleRun) (hatt : shorts.length + 1 < s.cfg.maxAttempts) :
    ∃ t, LegalSteps (shorts.length + 1) s t [] ∧ t.idx = 0#6 ∧ t.cnt = 0#3 ∧
      t.phase = phaseSearch ∧ t.att = shorts.length + 1 := by
  obtain ⟨hp, hcnt0, hatt0, -, -⟩ := hstart
  rw [List.map_append, List.append_assoc] at hin
  obtain ⟨u, hsteps, hphase, hattu, hcntu⟩ := steps_of_shorts shorts _ hl hp hin hshort (by omega)
  have hlong := hsteps.presents hin
  rw [List.drop_left' (by simp)] at hlong
  have hcntu_le : u.cnt.toNat ≤ s.cfg.preambleRun := by
    rw [hcntu, hcnt0]
    exact (min_le_left _ _).trans (by simpa using hrun)
  have hcfg := hsteps.cfg_eq
  have hidx := idx_eq_zero_of_search hsteps.legalRun.registersInRange hphase
  have hstep := step_search_token hsteps.legalRun hlong.port hphase
  rw [detect_of_attempt (by rwa [hcfg]) (fun ⟨_, hgt⟩ => by rw [hcfg] at hgt; omega)
    (by rw [hcfg]; omega), hcfg, nextRun_of_not_short (by rw [hf7]; exact nofun)] at hstep
  have hquiet := LegalSteps.quiet hsteps.legalRun hstep rfl (.nil (hsteps.legalRun.step hstep))
  refine ⟨_, hsteps.trans hquiet, hidx, rfl, hphase, ?_⟩
  simp [hattu, hatt0]

/-- Settles O18. In CAP_F7 the invariant of R33 says that both counters are 0. -/
theorem preambleSyncsAfterSufficientRun : Obligations.PreambleSyncsAfterSufficientRun := by
  unfold Obligations.PreambleSyncsAfterSufficientRun
  intro s shorts long rest hl hstart hfeeds hshort hf7 hrg hatt
  have hin := Presents.of_feeds hfeeds
  obtain hrun | hrun := Nat.lt_or_ge s.cfg.preambleRun shorts.length
  · obtain ⟨t, hsteps, hphase, hidx⟩ :=
      steps_of_preamble hl hstart hin hshort hf7 hrg hrun (by omega)
    obtain ⟨hcnt, hatt'⟩ := counters_eq_zero_of_capture hsteps.legalRun.registersInRange
      (by simp [hphase])
    exact ⟨t, hsteps.run_eq, hsteps.emitted_eq, hidx, hcnt, fun _ => ⟨hphase, hatt'⟩,
      fun hle => absurd hrun (Nat.not_lt.2 hle)⟩
  · obtain ⟨t, hsteps, hidx, hcnt, hsearch⟩ :=
      steps_of_shortPreamble hl hstart hin hshort hf7 hrg hrun hatt
    exact ⟨t, hsteps.run_eq, hsteps.emitted_eq, hidx, hcnt,
      fun hlt => absurd hlt (Nat.not_lt.2 hrun), fun _ => hsearch⟩

/-! ## The search that times out (R122, R128) -/

/-- The first pulse does not sync on the run before it, and the others do not on the run it leaves. -/
theorem neverSyncs_cons_iff {c : Config} {cnt : Nat} {ds : List Nat} :
    neverSyncs c cnt (d :: ds) = true ↔
      clsRg c d ≠ .syncMarker ∧ ¬ (clsF7 c d = .longBit ∧ c.preambleRun < cnt) ∧
        neverSyncs c (nextRun (clsF7 c d) cnt c.cntMax) ds = true := by
  rw [neverSyncs, Bool.and_eq_true, Bool.and_eq_true, decide_eq_true_eq, Bool.not_eq_true',
    decide_eq_false_iff_not, and_assoc]

/-- From any point of a search, the attempts left, none of which syncs, end the cycle with a timeout on
the last. -/
theorem steps_of_timeout (ds : List Nat) (ps : List PortIn) (hl : LegalRun s)
    (hp : s.phase = phaseSearch) (hin : Presents s (ds.map .token ++ ps))
    (hnever : neverSyncs s.cfg s.cnt.toNat ds = true)
    (hatt : s.att + ds.length = s.cfg.maxAttempts) :
    ∃ t, LegalSteps ds.length s t [t.res] ∧ AtCycleStart t ∧ t.res = tokenRegs .timeout := by
  induction ds generalizing s with
  | nil => exact absurd hatt (att_lt_of_search hl.registersInRange hp).ne
  | cons d ds ih =>
    obtain ⟨hrg, hrun, hrest⟩ := neverSyncs_cons_iff.1 hnever
    rw [List.length_cons] at hatt ⊢
    have hstep := step_search_token hl hin.port hp
    by_cases hlast : s.att + 1 = s.cfg.maxAttempts
    · obtain rfl : ds = [] := List.eq_nil_of_length_eq_zero (by omega)
      rw [detect_of_lastAttempt hrg hrun hlast] at hstep
      exact ⟨_, .emits hl hstep rfl, atCycleStart_endCycle _ _, rfl⟩
    · rw [detect_of_attempt hrg hrun hlast] at hstep
      obtain ⟨t, hsteps, hend⟩ := ih (hl.step hstep) hp (hin.step hl.noRequest hstep)
        (by simpa [toNat_nextRun hl.configFixed] using hrest) (by simp; omega)
      exact ⟨t, .quiet hl hstep rfl hsteps, hend⟩

/-- Settles O19. -/
theorem searchTimesOutAfterMaxAttempts : Obligations.SearchTimesOutAfterMaxAttempts := by
  unfold Obligations.SearchTimesOutAfterMaxAttempts
  intro s ds rest hl hstart hlen hfeeds hnever
  obtain ⟨hp, hcnt, hatt, -, -⟩ := hstart
  have hin := Presents.of_feeds hfeeds
  obtain ⟨t, hsteps, hend, hres⟩ :=
    steps_of_timeout ds rest hl hp hin (by rwa [hcnt]) (by rw [hatt, hlen, Nat.zero_add])
  have hafter := hsteps.presents hin
  rw [List.drop_left' (by simp)] at hafter
  obtain ⟨hport, hpending⟩ := hafter
  exact ⟨t, hsteps.run_eq, hend, hres, hres ▸ hsteps.emitted_eq, hport, hpending⟩

end Sys2Proof.Machine
end

section
/-! What 42_frame_decoder.md says: what a captured duration writes (R140 to R142), the packers on the
classes of a frame (R143 to R147), on their own (log 9) and as the serial packer (R148); and the
statements settled. -/

namespace Sys2Proof.Machine

section Packers

variable {n : Nat} {p : PulseClass} {cls : Nat → PulseClass} {ds : List Nat} {c : Config}

/-! ## The bits of a sequence of durations (R143, R145, R147) -/

/-- The class gives a frame bit: ShortBit or LongBit (30_encoding.md R74). -/
abbrev GivesBit (p : PulseClass) : Prop := p = .shortBit ∨ p = .longBit

theorem bitval_of_givesBit (h : GivesBit p) : bitval p = some (decide (p = .shortBit)) := by
  obtain rfl | rfl := h <;> rfl

theorem bitval_of_not_givesBit (h : ¬ GivesBit p) : bitval p = none := by
  cases p with
  | shortBit => exact absurd (.inl rfl) h
  | longBit => exact absurd (.inr rfl) h
  | syncMarker | invalid => rfl

/-- An F007TP class gives no bit exactly when it is Invalid: it is never SyncMarker. -/
theorem not_givesBit_clsF7_iff {d : Nat} : ¬ GivesBit (clsF7 c d) ↔ clsF7 c d = .invalid := by
  have hsync := clsF7_ne_syncMarker (c := c) (d := d)
  cases h : clsF7 c d <;> simp_all

/-- The bit of each duration: 1 for a ShortBit. -/
def shortBits (cls : Nat → PulseClass) (ds : List Nat) : List Bool :=
  ds.map fun d => decide (cls d = .shortBit)

@[simp] theorem length_shortBits : (shortBits cls ds).length = ds.length := List.length_map _

/-- When every class gives a bit, the frame's bits are those of its classes, in order. -/
theorem classBits_of_givesBit (h : ∀ d ∈ ds, GivesBit (cls d)) :
    classBits cls ds = some (shortBits cls ds) := by
  induction ds with
  | nil => rfl
  | cons d ds ih =>
    obtain ⟨hd, hds⟩ := List.forall_mem_cons.1 h
    rw [classBits, bitval_of_givesBit hd, ih hds]
    rfl

/-- One duration without a bit, wherever it stands, rejects the frame. -/
theorem classBits_of_not_givesBit (h : ∃ d ∈ ds, ¬ GivesBit (cls d)) :
    classBits cls ds = none := by
  induction ds with
  | nil => simp at h
  | cons d ds ih =>
    rw [classBits]
    obtain hd | hds := List.or_exists_of_exists_mem_cons h
    · rw [bitval_of_not_givesBit hd]
    · rw [ih hds]
      cases bitval (cls d) <;> rfl

/-! ## The packers (R144 to R147) -/

/-- Settles O22. -/
theorem packRgGivesClassBitsOrRejects : Obligations.PackRgGivesClassBitsOrRejects := by
  unfold Obligations.PackRgGivesClassBitsOrRejects
  intro c ds hlen
  refine ⟨fun hnone => ?_, fun hbits => ?_⟩
  · have hreject : classBits (clsRg c) ds = none :=
      classBits_of_not_givesBit (by simpa only [not_or] using hnone)
    rw [packRg, hreject, Option.map_none]
  · refine ⟨_, by rw [packRg, classBits_of_givesBit hbits, Option.map_some],
      fun i hi => ?_, fun j _ => toNat_frameByte _ j⟩
    rw [frameBit_of_bits (by rwa [length_shortBits]) (by rwa [length_shortBits])]
    exact List.getElem_map _

/-- Settles O23. The implicit 0 stands before the 39 bits of the classes. -/
theorem packF7GivesClassBitsOrRejects : Obligations.PackF7GivesClassBitsOrRejects := by
  unfold Obligations.PackF7GivesClassBitsOrRejects
  intro c ds hlen
  refine ⟨fun hnone => ?_, fun hvalid => ?_⟩
  · have hreject : classBits (clsF7 c) ds = none :=
      classBits_of_not_givesBit (by simpa only [not_givesBit_clsF7_iff] using hnone)
    rw [packF7, hreject, Option.map_none]
  · have hbits : ∀ d ∈ ds, GivesBit (clsF7 c d) := fun d hd =>
      not_imp_comm.1 not_givesBit_clsF7_iff.1 (hvalid d hd)
    have hlen40 : (false :: shortBits (clsF7 c) ds).length = 40 := by simp [hlen]
    refine ⟨_, by rw [packF7, classBits_of_givesBit hbits, Option.map_some], ?_, fun i hi => ?_⟩
    · rw [frameBit_of_bits hlen40 (by simp), List.getElem_cons_zero]
    · rw [frameBit_of_bits hlen40 (by simpa using hi), List.getElem_cons_succ]
      exact List.getElem_map _

/-! ## The serial packer (R148) -/

/-- A bit shifted into an n-bit register doubles what it holds and comes in last. -/
theorem ofNat_shiftIn (n v : Nat) (b : Bool) :
    (BitVec.ofNat n v <<< 1) ||| BitVec.ofNat n b.toNat = BitVec.ofNat n (2 * v + b.toNat) := by
  rw [← Nat.bit_val]
  apply BitVec.eq_of_getLsbD_eq
  intro i hi
  rw [BitVec.getLsbD_or, BitVec.getLsbD_shiftLeft, BitVec.getLsbD_ofNat, BitVec.getLsbD_ofNat,
    BitVec.getLsbD_ofNat]
  cases i with
  | zero => cases b <;> simp [hi]
  | succ i =>
    have hbit : b.toNat.testBit (i + 1) = false := by cases b <;> simp [Nat.testBit_succ]
    simp [hi, Nat.lt_of_succ_lt hi, Nat.testBit_bit_succ, hbit]

theorem serialStep_of_givesBit {d v : Nat} {bad : Bool} (h : GivesBit (cls d)) :
    serialStep cls (⟨BitVec.ofNat n v, bad⟩ : Serial n) d =
      ⟨BitVec.ofNat n (2 * v + (decide (cls d = .shortBit)).toNat), bad⟩ := by
  rw [serialStep, bitval_of_givesBit h, ← ofNat_shiftIn]

/-- The sticky bit is up after a step when it was before or the duration gives no bit. -/
theorem bad_serialStep_iff {d : Nat} {r : Serial n} :
    (serialStep cls r d).bad = true ↔ r.bad = true ∨ ¬ GivesBit (cls d) := by
  by_cases h : GivesBit (cls d)
  · simp [serialStep, bitval_of_givesBit h, h]
  · simp [serialStep, bitval_of_not_givesBit h, h]

theorem bad_foldl_serialStep_iff {r : Serial n} : (ds.foldl (serialStep cls) r).bad = true ↔
    r.bad = true ∨ ∃ d ∈ ds, ¬ GivesBit (cls d) := by
  induction ds generalizing r with
  | nil => simp
  | cons d ds ih =>
    rw [List.foldl_cons, ih, bad_serialStep_iff, List.exists_mem_cons_iff, or_assoc]

/-- After bits alone the shift register holds their value, mod its width, and the sticky bit is 0. -/
theorem foldl_serialStep_of_givesBit (h : ∀ d ∈ ds, GivesBit (cls d)) :
    ds.foldl (serialStep cls) (⟨0, false⟩ : Serial n) =
      ⟨BitVec.ofNat n (bitsValue (shortBits cls ds)), false⟩ := by
  induction ds using List.reverseRecOn with
  | nil => rfl
  | append_singleton ds d ih =>
    obtain ⟨hds, hd⟩ := List.forall_mem_append.1 h
    rw [List.foldl_concat, ih hds, serialStep_of_givesBit (hd d List.mem_cons_self),
      ← bitsValue_append_singleton, shortBits, shortBits, List.map_append, List.map_singleton]

/-- For any frame width and any number of durations, the serial packer gives the value of the class
bits, and rejects what the parallel bank rejects. -/
theorem serialPack_eq_classBits (n : Nat) (cls : Nat → PulseClass) (ds : List Nat) :
    serialPack (n := n) cls ds =
      (classBits cls ds).map fun bits => BitVec.ofNat n (bitsValue bits) := by
  by_cases h : ∀ d ∈ ds, GivesBit (cls d)
  · rw [serialPack, foldl_serialStep_of_givesBit h, classBits_of_givesBit h]
    rfl
  · have hnone : ∃ d ∈ ds, ¬ GivesBit (cls d) := by simpa only [not_forall, exists_prop] using h
    rw [serialPack, if_pos (bad_foldl_serialStep_iff.2 (.inr hnone)),
      classBits_of_not_givesBit hnone, Option.map_none]

/-- The implicit 0 of the F007TP frame adds nothing to the value of the bits after it. -/
theorem bitsValue_false_cons (bits : List Bool) : bitsValue (false :: bits) = bitsValue bits := rfl

/-- Settles O25, whatever the number of durations. -/
theorem serialPackerIsParallelPacker : Obligations.SerialPackerIsParallelPacker := by
  unfold Obligations.SerialPackerIsParallelPacker
  refine fun c ds => ⟨fun _ => serialPack_eq_classBits 64 (clsRg c) ds, fun _ => ?_⟩
  simp only [packF7, bitsValue_false_cons, serialPack_eq_classBits]

end Packers

/-! ## The captures (R140 to R142) -/

section Captures

variable {s : State}

theorem exec_captureRg_of_token (hc : ConfigFixed s) (ht : TokenEdge s) (hp : s.phase = phaseCapRg)
    (hidx : s.idx.toNat < 63) (hcnt : s.cnt = 0#3) (hatt : s.att = 0) :
    exec .captureRg s = .next (s.capture s.port.inDur).clearResult.nextEdge := by
  obtain ⟨hr, hv, hfits⟩ := ht
  have hs : select s = .ok .captureRg := by
    rw [select_of_token hr hv (.inr (.inl ⟨hp, hidx.le, hcnt, hatt⟩)),
      tokenOp_eq_captureRg_iff.2 ⟨hp, hidx⟩]
  exact exec_captureRg_eq_next_iff.2 ⟨hc, hs, hfits, rfl⟩

theorem exec_captureF7_of_token (hc : ConfigFixed s) (ht : TokenEdge s) (hp : s.phase = phaseCapF7)
    (hidx : s.idx.toNat < 38) (hcnt : s.cnt = 0#3) (hatt : s.att = 0) :
    exec .captureF7 s = .next (s.capture s.port.inDur).clearResult.nextEdge := by
  obtain ⟨hr, hv, hfits⟩ := ht
  have hs : select s = .ok .captureF7 := by
    rw [select_of_token hr hv (.inr (.inr ⟨hp, hidx.le, hcnt, hatt⟩)),
      tokenOp_eq_captureF7_iff.2 ⟨by simp [hp], by simp [hp], hidx⟩]
  exact exec_captureF7_eq_next_iff.2 ⟨hc, hs, hfits, rfl⟩

/-- A capture leaves every entry past the index as it was. -/
theorem getElem_capture_raw_of_lt (d : Nat) {i : Fin 64} (h : s.idx.toNat < i.val) :
    (s.capture d).raw[i] = s.raw[i] := by
  rw [State.capture_raw]
  exact Vector.getElem_set_ne _ i.isLt h.ne

end Captures

/-- Settles O20. -/
theorem captureRgStoresAnyDuration : Obligations.CaptureRgStoresAnyDuration := by
  unfold Obligations.CaptureRgStoresAnyDuration
  intro s hc ht hp hidx hcnt hatt
  exact ⟨_, exec_captureRg_of_token hc ht hp hidx hcnt hatt, rfl, rfl,
    idx_capture_toNat s.port.inDur hidx, rfl⟩

/-- Settles O21. The index is below 38, so the one entry written is below 39. -/
theorem captureF7StoresAnyDuration : Obligations.CaptureF7StoresAnyDuration := by
  unfold Obligations.CaptureF7StoresAnyDuration
  intro s hc ht hp hidx hcnt hatt
  exact ⟨_, exec_captureF7_of_token hc ht hp hidx hcnt hatt, rfl, rfl,
    idx_capture_toNat s.port.inDur (by omega),
    fun i hi => getElem_capture_raw_of_lt _ (by omega), rfl⟩

/-! ## The packers on their own (log 9) -/

/-- Settles O24. -/
theorem packShowsCapturedFrame : Obligations.PackShowsCapturedFrame := by
  unfold Obligations.PackShowsCapturedFrame
  intro s hc hfits
  exact ⟨fun hwritten => exec_packRg_eq_next_iff.2
      ⟨hc, hfits, (take_all_written_iff 63).2 hwritten, rfl⟩,
    fun hwritten => exec_packF7_eq_next_iff.2
      ⟨hc, hfits, (take_all_written_iff 38).2 hwritten, rfl⟩⟩

end Sys2Proof.Machine
end

section
/-! What 43_integrity.md says: a frame with one bit inverted, the checksum (R160, R161), the header check
(R162) and the CRC-8 (R163 to R167) with its register and its bytewise form; the units on their own
(log 9); and the statements settled. -/

namespace Sys2Proof.Machine

/-! ## Frames bit by bit (00_scope.md R11, 20_memory.md R53) -/

section FrameBits

variable {n m a b i k : Nat} {f g : BitVec n}

theorem frameBit_eq_getLsbD (hi : i < n) : frameBit f i = f.getLsbD (n - 1 - i) := by
  simp [frameBit, BitVec.getMsbD_eq_getLsbD, hi]

/-- Two frames are equal exactly when they agree on every frame bit. -/
theorem frame_eq_iff : f = g ↔ ∀ i < n, frameBit f i = frameBit g i :=
  ⟨fun h _ _ => h ▸ rfl, BitVec.eq_of_getMsbD_eq⟩

/-- Two slices, of frames of any widths, are equal exactly when they agree on every bit. -/
theorem frameBits_eq_iff {g : BitVec m} :
    frameBits f a b = frameBits g a b ↔ ∀ i, a ≤ i → i ≤ b → frameBit f i = frameBit g i := by
  rw [frameBits, frameBits, List.map_inj_left]
  refine forall_congr' fun i => ?_
  rw [List.mem_range'_1, and_imp]
  refine forall_congr' fun ha => ?_
  rw [show i < a + (b + 1 - a) ↔ i ≤ b by omega]

/-- Two slices that meet are the slice from the first one's start to the second one's end. -/
theorem frameBits_append (ha : a ≤ k + 1) (hb : k ≤ b) :
    frameBits f a k ++ frameBits f (k + 1) b = frameBits f a b := by
  have hlen : b + 1 - a = (k + 1 - a) + (b - k) := by omega
  have hmeet : a + (k + 1 - a) = k + 1 := by omega
  rw [frameBits, frameBits, frameBits, ← List.map_append, hlen, ← List.range'_append_1, hmeet,
    Nat.add_sub_add_right]

/-- A slice, taken apart at one of its bits. -/
theorem frameBits_split (ha : a ≤ k + 1) (hb : k + 1 ≤ b) :
    frameBits f a b = frameBits f a k ++ frameBit f (k + 1) :: frameBits f (k + 2) b := by
  rw [← frameBits_append (Nat.le_succ_of_le ha) hb, frameBits_succ f ha, List.append_assoc,
    List.singleton_append]

theorem frameBit_frameByte (hi : i < 8) : frameBit (frameByte f k) i = frameBit f (8 * k + i) := by
  rw [frameBit_eq_getLsbD hi, getLsbD_frameByte f k hi]

/-- A packed byte's bits, bit 7 first, are the frame bits it was packed from. -/
theorem byteBits_frameByte : byteBits (frameByte f k) = frameBits f (8 * k) (8 * k + 7) := by
  rw [byteBits, frameBits, show 8 * k + 7 + 1 - 8 * k = 8 by omega, List.range'_eq_map_range,
    List.map_map]
  exact List.map_congr_left fun i hi => frameBit_frameByte (List.mem_range.1 hi)

end FrameBits

/-! ## A frame with one bit inverted -/

/-- The frame with `f[i]` inverted. -/
def flipBit {n : Nat} (f : BitVec n) (i : Nat) : BitVec n := f ^^^ BitVec.twoPow n (n - 1 - i)

section FlipBit

variable {n i j k : Nat} {f : BitVec n}

theorem frameBit_flipBit (hi : i < n) :
    frameBit (flipBit f i) j = (frameBit f j ^^ decide (j = i)) := by
  have hlt : n - 1 - i < n := by omega
  have hpos : n - (n - 1 - i) - 1 = i := by omega
  rw [frameBit, flipBit, BitVec.getMsbD_xor, BitVec.getMsbD_twoPow, hpos, decide_eq_true hlt,
    Bool.true_and, frameBit]

theorem frameBit_flipBit_self (hi : i < n) : frameBit (flipBit f i) i = !frameBit f i := by
  simp [frameBit_flipBit hi]

theorem frameBit_flipBit_of_ne (hi : i < n) (h : j ≠ i) :
    frameBit (flipBit f i) j = frameBit f j := by
  simp [frameBit_flipBit hi, h]

theorem flipBit_ne_self (hi : i < n) : flipBit f i ≠ f := by
  intro h
  have hflip := frameBit_flipBit_self (f := f) hi
  rw [h] at hflip
  simp at hflip

/-- Inverting one bit of a frame inverts one bit of the byte it is packed in. -/
theorem frameByte_flipBit_self (hi : i < n) :
    frameByte (flipBit f i) (i / 8) = flipBit (frameByte f (i / 8)) (i % 8) := by
  rw [frame_eq_iff]
  intro j hj
  have hpos : (8 * (i / 8) + j = i) ↔ (j = i % 8) := by omega
  simp only [frameBit_frameByte hj, frameBit_flipBit hi, frameBit_flipBit (Nat.mod_lt i _), hpos,
    Nat.zero_lt_succ]

/-- It leaves the other bytes as they are. -/
theorem frameByte_flipBit_of_ne (hi : i < n) (h : k ≠ i / 8) :
    frameByte (flipBit f i) k = frameByte f k := by
  rw [frame_eq_iff]
  intro j hj
  rw [frameBit_frameByte hj, frameBit_frameByte hj, frameBit_flipBit_of_ne hi (by omega)]

/-- A slice that does not hold the inverted bit is left as it is. -/
theorem frameBits_flipBit_of_outside {a b : Nat} (hi : i < n) (h : i < a ∨ b < i) :
    frameBits (flipBit f i) a b = frameBits f a b :=
  frameBits_eq_iff.2 fun _ _ _ => frameBit_flipBit_of_ne hi (by omega)

end FlipBit

/-! ## The checksum (R160, R161) -/

/-- Settles O28. R87's checksum byte of bytes 0 to 6 is their sum mod 256 by its definition. -/
theorem checksumIsSumOfBytes : Obligations.ChecksumIsSumOfBytes := by
  unfold Obligations.ChecksumIsSumOfBytes
  intro w
  rw [checksumRg_iff_sum, ← payloadChecksum_eq_sum, payloadChecksum, ← BitVec.toNat_inj,
    BitVec.toNat_ofNat]
  simp [List.range_succ, Nat.add_assoc]

/-- R161(c)'s `acc − byte[7]`, of eight bytes. -/
def checksumGap (bytes : Nat → Byte) : Byte := ∑ k ∈ Finset.range 7, bytes k - bytes 7

section ChecksumGap

variable {w w' : BitVec 64} {b b' : Nat → Byte}

theorem checksumRg_iff_gap : checksumRg w = true ↔ checksumGap (frameByte w) = 0 := by
  rw [checksumRg_iff_sum, checksumGap, sub_eq_zero]
  rfl

theorem checksumGap_sub : checksumGap (b' - b) = checksumGap b' - checksumGap b := by
  simp only [checksumGap, Pi.sub_apply, Finset.sum_sub_distrib]
  abel

/-- From a frame that passes, a changed frame passes exactly when its changes cancel. -/
theorem checksumRg_iff_gap_of_change (h : checksumRg w = true) :
    checksumRg w' = true ↔ checksumGap (frameByte w' - frameByte w) = 0 := by
  rw [checksumRg_iff_gap] at h ⊢
  rw [checksumGap_sub, h, sub_zero]

/-- A change of one byte alone does not cancel. -/
theorem checksumGap_ne_zero_of_single {e : Nat → Byte} {k : Nat} (hk : k < 8) (hne : e k ≠ 0)
    (hothers : ∀ l ≠ k, e l = 0) : checksumGap e ≠ 0 := by
  rw [checksumGap]
  obtain hlast | hsum := Nat.eq_or_lt_of_le (Nat.le_of_lt_succ hk)
  · rw [Finset.sum_eq_zero fun l hl => hothers l (by have := Finset.mem_range.1 hl; omega), ← hlast, zero_sub]
    exact neg_ne_zero.2 hne
  · rw [Finset.sum_eq_single k (fun l _ => hothers l) (by simp [hsum]), hothers 7 (by omega),
      sub_zero]
    exact hne

/-- R161(c): a frame that passes fails with any one bit inverted. -/
theorem checksumRg_flipBit {i : Nat} (hi : i < 64) (h : checksumRg w = true) :
    checksumRg (flipBit w i) = false := by
  rw [← Bool.not_eq_true, checksumRg_iff_gap_of_change h]
  refine checksumGap_ne_zero_of_single (k := i / 8) (by omega) ?_ fun l hl => ?_
  · rw [Pi.sub_apply, frameByte_flipBit_self hi, sub_ne_zero]
    exact flipBit_ne_self (Nat.mod_lt i (by decide))
  · rw [Pi.sub_apply, frameByte_flipBit_of_ne hi hl, sub_self]

/-- Setting a clear bit 0 adds 1 to a byte. -/
theorem flipBit_seven_of_even {b : Byte} (h : b.getLsbD 0 = false) : flipBit b 7 = b + 1#8 := by
  revert b
  decide

/-- Clearing a set bit 0 subtracts 1 from a byte. -/
theorem flipBit_seven_of_odd {b : Byte} (h : b.getLsbD 0 = true) : flipBit b 7 = b - 1#8 := by
  revert b
  decide

/-- R161(d): 1 added to byte 0 and subtracted from byte 1 cancel. -/
theorem checksumRg_flipBit_flipBit (h : checksumRg w = true)
    (h0 : (frameByte w 0).getLsbD 0 = false) (h1 : (frameByte w 1).getLsbD 0 = true) :
    checksumRg (flipBit (flipBit w 7) 15) = true := by
  have hbyte0 : frameByte (flipBit (flipBit w 7) 15) 0 = frameByte w 0 + 1#8 := by
    rw [frameByte_flipBit_of_ne (by decide) (by decide), ← flipBit_seven_of_even h0]
    exact frameByte_flipBit_self (by decide)
  have hbyte1 : frameByte (flipBit (flipBit w 7) 15) 1 = frameByte w 1 - 1#8 := by
    have hkept : frameByte (flipBit w 7) 1 = frameByte w 1 :=
      frameByte_flipBit_of_ne (by decide) (by decide)
    rw [← flipBit_seven_of_odd h1, ← hkept]
    exact frameByte_flipBit_self (by decide)
  have hothers (k : Nat) (hk : 2 ≤ k) :
      frameByte (flipBit (flipBit w 7) 15) k = frameByte w k := by
    rw [frameByte_flipBit_of_ne (by decide) (by omega),
      frameByte_flipBit_of_ne (by decide) (by omega)]
  rw [checksumRg_iff_gap_of_change h, checksumGap]
  simp [Finset.sum_range_succ, hbyte0, hbyte1, hothers]

end ChecksumGap

/-- Settles O29. Bits 56 and 48 of the packed word are bit 0 of bytes 0 and 1. -/
theorem checksumDetectsSingleBitErrors : Obligations.ChecksumDetectsSingleBitErrors := by
  unfold Obligations.ChecksumDetectsSingleBitErrors
  refine fun w h => ⟨fun j hj => ?_, checksumRg_flipBit_flipBit h⟩
  have hflip : w ^^^ BitVec.twoPow 64 j = flipBit w (63 - j) := by
    rw [flipBit, show 64 - 1 - (63 - j) = j by omega]
  rw [hflip]
  exact checksumRg_flipBit (by omega) h

/-! ## The header check (R162) -/

section Header

variable {c : Config} {f : BitVec 40}

theorem headerF7_iff : headerF7 c f = true ↔ ∀ i < 4, frameBit f i = frameBit c.f7Header i := by
  rw [headerF7, decide_eq_true_eq, frameBits_eq_iff]
  exact forall_congr' fun i => ⟨fun h hi => h (by omega) (by omega), fun h _ hi => h (by omega)⟩

/-- The header check fails when one of the bits it passed is inverted. -/
theorem headerF7_flipBit_of_header {j : Nat} (hj : j < 4) (h : headerF7 c f = true) :
    headerF7 c (flipBit f j) = false := by
  rw [← Bool.not_eq_true, headerF7_iff]
  intro hflip
  have hbit := hflip j hj
  rw [frameBit_flipBit_self (by omega), headerF7_iff.1 h j hj] at hbit
  simp at hbit

/-- It does not see a bit after those four inverted. -/
theorem headerF7_flipBit_of_rest {j : Nat} (hj : 4 ≤ j) (hlt : j < 40) (h : headerF7 c f = true) :
    headerF7 c (flipBit f j) = true := by
  rw [headerF7_iff] at h ⊢
  intro i hi
  rw [frameBit_flipBit_of_ne hlt (by omega), h i hi]

end Header

/-- Settles O30. -/
theorem headerCheckComparesFixedPattern : Obligations.HeaderCheckComparesFixedPattern := by
  unfold Obligations.HeaderCheckComparesFixedPattern
  refine ⟨fun c f => headerF7_iff, fun f => headerF7_iff.trans ?_⟩
  have hpattern : [0, 1, 2, 3].map (frameBit Config.default.f7Header) =
      [false, true, false, false] := by decide
  simp only [List.map_cons, List.map_nil, List.cons.injEq, and_true] at hpattern
  obtain ⟨h0, h1, h2, h3⟩ := hpattern
  simp only [Nat.forall_lt_succ_right, Nat.not_lt_zero, false_imp_iff, forall_const, true_and,
    h0, h1, h2, h3, and_assoc]

/-! ## The CRC-8 register (R163) and its comparison (R164) -/

section Crc

variable {c : Config} {f : BitVec 40} {p r r' d : Byte}

/-- One step of R163's pseudocode, in its numbers. -/
theorem toNat_crcStep {poly : Nat} (hpoly : poly < 2 ^ 8) (r : Byte) (b : Bool) :
    (crcStep (BitVec.ofNat 8 poly) r b).toNat =
      if (r.toNat / 128 + b.toNat) % 2 = 1 then (2 * r.toNat % 256) ^^^ poly
      else 2 * r.toNat % 256 := by
  have hfeedback : (r.getLsbD 7 ^^ b) = true ↔ (r.toNat / 128 + b.toNat) % 2 = 1 := by
    rw [← BitVec.testBit_toNat, Nat.testBit_eq_decide_div_mod_eq]
    cases b
    · simp
    · simp
      omega
  have hshift : (r <<< 1).toNat = 2 * r.toNat % 256 := by
    rw [BitVec.toNat_shiftLeft, Nat.shiftLeft_eq, Nat.mul_comm]
  simp only [crcStep, hfeedback]
  split_ifs
  · rw [BitVec.toNat_xor, hshift, BitVec.toNat_ofNat, Nat.mod_eq_of_lt hpoly]
  · exact hshift

/-- Any sequence of values that follows R163's step holds the CRC-8 of the bits taken in so far. -/
theorem toNat_crcBits_of_register (hc : c.wellFormed = true) {bit : Nat → Bool} {r : Nat → Nat}
    {n : Nat} (h0 : r 0 = c.crcInit)
    (hstep : ∀ i < n, r (i + 1) =
      if (r i / 128 + (bit i).toNat) % 2 = 1 then (2 * r i % 256) ^^^ c.crcPoly
      else 2 * r i % 256) :
    (crcBits c ((List.range n).map bit)).toNat = r n := by
  obtain ⟨-, -, -, -, -, -, -, hfits, -⟩ := Config.wellFormed_iff_checks.1 hc
  obtain ⟨hinit, hpoly⟩ := Config.crcFits_iff.1 hfits
  induction n with
  | zero => exact (Nat.mod_eq_of_lt hinit).trans h0.symm
  | succ n ih =>
    have ih := ih fun i hi => hstep i (by omega)
    rw [crcBits] at ih ⊢
    rw [List.range_succ, List.map_append, List.map_singleton, List.foldl_concat,
      toNat_crcStep hpoly, ih, hstep n (Nat.lt_succ_self n)]

/-- R164: `f[32..39]` are byte 4, and the comparison is between bytes. -/
theorem crcMatches_iff : crcMatches r f = true ↔ r = frameByte f 4 := by
  rw [crcMatches, decide_eq_true_eq, ← BitVec.toNat_inj, toNat_frameByte]

/-- Settles O31. -/
theorem crcFollowsItsRegister : Obligations.CrcFollowsItsRegister := by
  unfold Obligations.CrcFollowsItsRegister
  refine ⟨fun c f r hc h0 hstep => ?_, fun crc f => ?_⟩
  · rw [crc8F7, frameBits, ← List.range_eq_range']
    exact toNat_crcBits_of_register hc h0 hstep
  · rw [crcMatches_iff, frame_eq_iff]
    refine forall₂_congr fun j hj => ?_
    rw [frameBit_eq_getLsbD hj, frameBit_frameByte hj]

/-! ## The bytewise form (R165) -/

/-- The term that R163 XORs into the register: the generator where the feedback is 1. -/
def polyIf (p : Byte) (b : Bool) : Byte := if b then p else 0#8

theorem polyIf_xor (p : Byte) (b b' : Bool) : polyIf p (b ^^ b') = polyIf p b ^^^ polyIf p b' := by
  cases b <;> cases b' <;> simp [polyIf]

theorem crcShift_eq (p r : Byte) : crcShift p r = (r <<< 1) ^^^ polyIf p (r.getLsbD 7) := by
  rw [crcShift, polyIf]
  split_ifs
  · rfl
  · rw [BitVec.xor_zero]

/-- A shift step is linear in the register. -/
theorem crcShift_xor (p r r' : Byte) : crcShift p (r ^^^ r') = crcShift p r ^^^ crcShift p r' := by
  simp only [crcShift_eq, BitVec.getLsbD_xor, polyIf_xor, BitVec.shiftLeft_xor_distrib]
  ac_rfl

/-- A step of R163 is a shift step of R165 and the generator for the bit taken in. -/
theorem crcStep_eq_crcShift_xor (p r : Byte) (b : Bool) :
    crcStep p r b = crcShift p r ^^^ polyIf p b := by
  rw [crcShift_eq, BitVec.xor_assoc, ← polyIf_xor, crcStep, polyIf]
  split_ifs
  · rfl
  · rw [BitVec.xor_zero]

/-- After n shift steps the first n bits of the byte were taken in, and the others stand at the top of
the register. -/
theorem foldl_crcShift_xor (p r d : Byte) {n : Nat} (hn : n ≤ 8) :
    (List.range n).foldl (fun r _ => crcShift p r) (r ^^^ d) =
      ((List.range n).map d.getMsbD).foldl (crcStep p) r ^^^ (d <<< n) := by
  induction n with
  | zero => simp
  | succ n ih =>
    have htop : (d <<< n).getLsbD 7 = d.getMsbD n := by
      rw [BitVec.getLsbD_shiftLeft, BitVec.getMsbD_eq_getLsbD]
      simp [show n < 8 by omega, show ¬ 7 < n by omega]
    rw [List.range_succ, List.foldl_concat, ih (by omega), crcShift_xor, crcShift_eq p (d <<< n),
      htop, List.map_append, List.map_singleton, List.foldl_concat, crcStep_eq_crcShift_xor,
      BitVec.shiftLeft_add]
    ac_rfl

/-- One byte of R165 is its eight bits of R163. -/
theorem crcByteStep_eq_foldl (p r d : Byte) :
    crcByteStep p r d = (byteBits d).foldl (crcStep p) r := by
  rw [crcByteStep, foldl_crcShift_xor p r d (Nat.le_refl 8), BitVec.shiftLeft_eq_zero (Nat.le_refl 8),
    BitVec.xor_zero, byteBits]

/-- For any number of bytes, the bytewise form is the bit-serial one. -/
theorem crcBytewise_eq_crcBits (c : Config) (bs : List Byte) :
    crcBytewise c bs = crcBits c (bs.flatMap byteBits) := by
  rw [crcBytewise, crcBits, List.foldl_flatMap]
  exact List.foldl_ext _ _ _ fun r b _ => crcByteStep_eq_foldl _ r b

/-- Settles O32. -/
theorem bytewiseCrcIsBitSerialCrc : Obligations.BytewiseCrcIsBitSerialCrc := by
  unfold Obligations.BytewiseCrcIsBitSerialCrc
  intro c f
  have hbits : [frameByte f 0, frameByte f 1, frameByte f 2, frameByte f 3].flatMap byteBits =
      frameBits f 0 31 := by
    simp only [List.flatMap_cons, List.flatMap_nil, byteBits_frameByte, List.append_nil,
      Nat.reduceMul, Nat.reduceAdd]
    rw [frameBits_append (by omega) (by omega), frameBits_append (by omega) (by omega),
      frameBits_append (by omega) (by omega)]
  rw [crcBytewise_eq_crcBits, hbits, crc8F7]

/-! ## Single-bit errors (R167) -/

/-- Every term of d stands at or above the lowest term of the generator p. -/
def NoTermBelow (p d : Byte) : Prop := ∀ i, (∀ k ≤ i, p.getLsbD k = false) → d.getLsbD i = false

/-- A register difference that no later step can cancel. This is R167's fact of CRC theory in the
engine's terms, for a generator whose lowest term need not be 1. -/
def Persists (p d : Byte) : Prop := d ≠ 0#8 ∧ NoTermBelow p d

theorem persists_self (h : p ≠ 0#8) : Persists p p := ⟨h, fun i hi => hi i (Nat.le_refl i)⟩

/-- Shifted, the difference's terms stand above the lowest term of the generator. -/
theorem NoTermBelow.getLsbD_shiftLeft_one (h : NoTermBelow p d) {i : Nat}
    (hi : ∀ k < i, p.getLsbD k = false) : (d <<< 1).getLsbD i = false := by
  rw [BitVec.getLsbD_shiftLeft]
  cases i with
  | zero => simp
  | succ i => simp [h i fun k hk => hi k (Nat.lt_succ_of_le hk)]

/-- So it is not the generator, which would have no lowest term then: bit by bit, from bit 0 up, it
would be 0. -/
theorem NoTermBelow.shiftLeft_ne (hp : p ≠ 0#8) (h : NoTermBelow p d) : d <<< 1 ≠ p := by
  intro hshift
  have hclear (i : Nat) : p.getLsbD i = false := by
    induction i using Nat.strong_induction_on with
    | _ i ih =>
      rw [← hshift]
      exact h.getLsbD_shiftLeft_one ih
  exact hp (BitVec.eq_of_getLsbD_eq fun i _ => by rw [hclear, BitVec.getLsbD_zero])

theorem shiftLeft_ne_zero (hd : d ≠ 0#8) (htop : d.getLsbD 7 = false) : d <<< 1 ≠ 0#8 := by
  intro hzero
  refine hd (BitVec.eq_of_getLsbD_eq fun i hi => ?_)
  obtain rfl | hlow := Nat.eq_or_lt_of_le (Nat.le_of_lt_succ hi)
  · rw [htop, BitVec.getLsbD_zero]
  · have hbit : (d <<< 1).getLsbD (i + 1) = d.getLsbD i := by
      rw [BitVec.getLsbD_shiftLeft]
      simp [Nat.succ_lt_succ hlow]
    rw [← hbit, hzero, BitVec.getLsbD_zero, BitVec.getLsbD_zero]

/-- A shift step leads from a difference that persists to another. Where bit 7 is set the generator is
XORed in, and what was shifted is not the generator; where it is clear no term is shifted out. -/
theorem Persists.shiftStep (hp : p ≠ 0#8) (h : Persists p d) : Persists p (crcShift p d) := by
  obtain ⟨hne, hlow⟩ := h
  have hshifted (i : Nat) (hi : ∀ k ≤ i, p.getLsbD k = false) : (d <<< 1).getLsbD i = false :=
    hlow.getLsbD_shiftLeft_one fun k hk => hi k hk.le
  rw [crcShift]
  split_ifs with htop
  · refine ⟨fun hzero => hlow.shiftLeft_ne hp (BitVec.xor_eq_zero_iff.1 hzero), fun i hi => ?_⟩
    rw [BitVec.getLsbD_xor, hshifted i hi, hi i (Nat.le_refl i), Bool.xor_false]
  · exact ⟨shiftLeft_ne_zero hne (Bool.eq_false_of_not_eq_true htop), hshifted⟩

/-- Two registers that take in the same bit: their difference takes a shift step. -/
theorem crcStep_xor_crcStep (p r r' : Byte) (b : Bool) :
    crcStep p r b ^^^ crcStep p r' b = crcShift p (r ^^^ r') := by
  rw [crcStep_eq_crcShift_xor, crcStep_eq_crcShift_xor, crcShift_xor, BitVec.xor_assoc,
    BitVec.xor_comm (polyIf p b), BitVec.xor_assoc, BitVec.xor_self, BitVec.xor_zero]

/-- One register that takes in a bit or its inverse: the difference is the generator. -/
theorem crcStep_xor_crcStep_not (p r : Byte) (b : Bool) :
    crcStep p r b ^^^ crcStep p r (!b) = p := by
  have hterms : polyIf p b ^^^ polyIf p (!b) = p := by cases b <;> simp [polyIf]
  rw [crcStep_eq_crcShift_xor, crcStep_eq_crcShift_xor, BitVec.xor_comm (crcShift p r),
    BitVec.xor_assoc, ← BitVec.xor_assoc (crcShift p r), BitVec.xor_self, BitVec.zero_xor, hterms]

/-- Registers whose difference persists stay apart over any bits that both take in. -/
theorem Persists.foldl_crcStep (hp : p ≠ 0#8) (bits : List Bool) (h : Persists p (r ^^^ r')) :
    Persists p (bits.foldl (crcStep p) r ^^^ bits.foldl (crcStep p) r') := by
  induction bits generalizing r r' with
  | nil => exact h
  | cons b bits ih =>
    refine ih ?_
    rw [crcStep_xor_crcStep]
    exact h.shiftStep hp

/-- A generator with more than one term tells any two messages apart that differ in one bit. -/
theorem crcBits_ne_of_inverted (hp : BitVec.ofNat 8 c.crcPoly ≠ 0#8) (xs ys : List Bool) (b : Bool) :
    crcBits c (xs ++ (!b) :: ys) ≠ crcBits c (xs ++ b :: ys) := by
  intro h
  rw [crcBits, crcBits, List.foldl_append, List.foldl_append, List.foldl_cons, List.foldl_cons] at h
  refine (Persists.foldl_crcStep hp ys ?_).1 (BitVec.xor_eq_zero_iff.2 h.symm)
  rw [crcStep_xor_crcStep_not]
  exact persists_self hp

/-- The CRC-8 changes with any one of `f[1..31]`. -/
theorem crc8F7_flipBit_ne {j : Nat} (hp : BitVec.ofNat 8 c.crcPoly ≠ 0#8) (hpos : 1 ≤ j)
    (hj : j < 32) : crc8F7 c (flipBit f j) ≠ crc8F7 c f := by
  obtain ⟨k, rfl⟩ := Nat.exists_eq_add_of_le' hpos
  rw [crc8F7, crc8F7, frameBits_split (k := k) (by omega) (by omega),
    frameBits_split (f := f) (k := k) (by omega) (by omega), frameBit_flipBit_self (by omega),
    frameBits_flipBit_of_outside (by omega) (by omega),
    frameBits_flipBit_of_outside (by omega) (by omega)]
  exact crcBits_ne_of_inverted hp _ _ _

/-- The CRC comparison that passed fails when one of `f[1..39]` is inverted: in `f[1..31]` it changes
the CRC computed, in `f[32..39]` the one received. -/
theorem crcMatches_flipBit {j : Nat} (hp : BitVec.ofNat 8 c.crcPoly ≠ 0#8) (hpos : 1 ≤ j)
    (hj : j < 40) (h : crcMatches (crc8F7 c f) f = true) :
    crcMatches (crc8F7 c (flipBit f j)) (flipBit f j) = false := by
  rw [crcMatches_iff] at h
  rw [← Bool.not_eq_true, crcMatches_iff]
  obtain hmessage | hreceived := Nat.lt_or_ge j 32
  · rw [frameByte_flipBit_of_ne hj (by omega), ← h]
    exact crc8F7_flipBit_ne hp hpos hmessage
  · have hbyte : j / 8 = 4 := by omega
    have hcrc : crc8F7 c (flipBit f j) = crc8F7 c f := by
      rw [crc8F7, frameBits_flipBit_of_outside hj (by omega), crc8F7]
    rw [hcrc, h, ← hbyte, frameByte_flipBit_self hj]
    exact (flipBit_ne_self (Nat.mod_lt j (by decide))).symm

end Crc

/-- Settles O33. The header check comes first, so an inversion in it is judged before the CRC. -/
theorem crcDetectsSingleBitErrors : Obligations.CrcDetectsSingleBitErrors := by
  unfold Obligations.CrcDetectsSingleBitErrors
  intro c f j hc hpoly hheader hcrc hpos hj
  obtain ⟨-, -, -, -, -, -, -, hfits, -⟩ := Config.wellFormed_iff_checks.1 hc
  have hp : BitVec.ofNat 8 c.crcPoly ≠ 0#8 := by
    rw [Ne, ← BitVec.toNat_inj, BitVec.toNat_ofNat, Nat.mod_eq_of_lt (Config.crcFits_iff.1 hfits).2]
    exact hpoly
  have hflip : f ^^^ BitVec.twoPow 40 (39 - j) = flipBit f j := rfl
  rw [hflip]
  by_cases hfirst : j ≤ 3
  · rw [judgeF7, headerF7_flipBit_of_header (by omega) hheader, if_neg Bool.false_ne_true,
      if_pos hfirst]
  · rw [judgeF7, headerF7_flipBit_of_rest (by omega) (by omega) hheader, if_pos rfl,
      crcMatches_flipBit hp hpos (by omega) hcrc, if_neg Bool.false_ne_true, if_neg hfirst]

/-! ## The units evaluated on their own (log 9) -/

section Shown

variable {c : Config} {nets : Nets}

/-- CRC8_F7 computes where the header check passed. -/
theorem shownCrc8F7_eq_ite : shownCrc8F7 c nets =
    if nets.headerF7 = some true then nets.packF7.map (crc8F7 c) else none := by
  unfold shownCrc8F7
  split
  · next f hpack hpassed => rw [if_pos hpassed, hpack, Option.map_some]
  · next hnot =>
    split_ifs with hpassed
    · rw [Option.eq_none_iff_forall_ne_some.2 fun f hpack => hnot f hpack hpassed, Option.map_none]
    · rfl

/-- EXTRACT_RG extracts where the checksum passed. -/
theorem shownRgFields_eq_ite : shownRgFields c nets =
    if nets.checksumRg = some true then (nets.packRg.map (extractRg c)).getD .zero else .zero := by
  unfold shownRgFields
  split
  · next bytes hpack hpassed => rw [if_pos hpassed, hpack, Option.map_some, Option.getD_some]
  · next hnot =>
    split_ifs with hpassed
    · rw [Option.eq_none_iff_forall_ne_some.2 fun bytes hpack => hnot bytes hpack hpassed,
        Option.map_none, Option.getD_none]
    · rfl

/-- EXTRACT_F7 extracts where the CRC that is shown matches. -/
theorem shownF7Fields_of_shown {f : BitVec 40} {crc : Byte} (hpack : nets.packF7 = some f)
    (hpassed : nets.headerF7 = some true) (hcrc : nets.crc8F7 = some crc) :
    shownF7Fields c nets = if crc.toNat = val f 32 39 then extractF7 c f else .zero := by
  simp only [shownF7Fields, hpack, hpassed, hcrc, crcMatches, decide_eq_true_eq]

theorem shownF7Fields_of_missing
    (h : nets.packF7 = none ∨ nets.headerF7 ≠ some true ∨ nets.crc8F7 = none) :
    shownF7Fields c nets = .zero := by
  unfold shownF7Fields
  split
  · next f crc hpack hpassed hcrc => simp [hpack, hpassed, hcrc] at h
  · rfl

end Shown

/-- Settles O34. -/
theorem unitsShowTheirAnswers : Obligations.UnitsShowTheirAnswers := by
  unfold Obligations.UnitsShowTheirAnswers
  intro s hc
  refine ⟨exec_checksumRg_eq_next_iff.2 ⟨hc, rfl⟩, exec_headerF7_eq_next_iff.2 ⟨hc, rfl⟩,
    exec_crc8F7_eq_next_iff.2 ⟨hc, ?_⟩, exec_extractRg_eq_next_iff.2 ⟨hc, ?_⟩,
    fun f crc hpack hpassed hcrc => exec_extractF7_eq_next_iff.2 ⟨hc, ?_⟩,
    fun hmissing => exec_extractF7_eq_next_iff.2 ⟨hc, ?_⟩⟩
  · rw [shownCrc8F7_eq_ite]
    rfl
  · rw [shownRgFields_eq_ite]
    rfl
  · rw [shownF7Fields_of_shown hpack hpassed hcrc]
    rfl
  · rw [shownF7Fields_of_missing hmissing]
    rfl

end Sys2Proof.Machine
end

section
/-! What 44_field_extractor.md says: each extracted field is the exact integer of its pseudocode, for
RainGauge (R180 to R184) and for F007TP (R187 to R191); and the two statements settled. -/

namespace Sys2Proof.Machine

/-- A number that fits its field is the field's value: nothing wraps. -/
theorem toNat_ofNat_of_lt {n v : Nat} (hv : v < 2 ^ n) : (BitVec.ofNat n v).toNat = v := by
  rw [BitVec.toNat_ofNat, Nat.mod_eq_of_lt hv]

/-! ## The RainGauge fields (R180 to R184) -/

section RgExact

variable {c : Config} (w : BitVec 64)

theorem bigEndian_lt (high low : Byte) : bigEndian high low < 2 ^ 16 :=
  bigEndian_eq_toNat high low ▸ (high ++ low).isLt

theorem littleEndian_lt (low high : Byte) : littleEndian low high < 2 ^ 16 :=
  littleEndian_eq_toNat low high ▸ (high ++ low).isLt

theorem rgRainRaw_lt : rgRainRaw w < 2 ^ 16 := littleEndian_lt _ _

theorem rgTempRaw_lt : rgTempRaw w < 2 ^ 16 := littleEndian_lt _ _

theorem toNat_extractRg_id :
    (extractRg c w).id.toNat = bigEndian (frameByte w 0) (frameByte w 1) :=
  toNat_ofNat_of_lt (bigEndian_lt _ _)

theorem toNat_extractRg_rainRaw : (extractRg c w).rainRaw.toNat = rgRainRaw w :=
  toNat_ofNat_of_lt (rgRainRaw_lt w)

theorem toNat_extractRg_tempRaw : (extractRg c w).tempRaw.toNat = rgTempRaw w :=
  toNat_ofNat_of_lt (rgTempRaw_lt w)

theorem toNat_extractRg_rain (hc : c.wellFormed = true) :
    (extractRg c w).rain.toNat = rgRain c (rgRainRaw w) :=
  toNat_ofNat_of_lt (rgRain_lt hc (rgRainRaw_lt w))

theorem toInt_extractRg_tempNum (hc : c.wellFormed = true) :
    (extractRg c w).tempNum.toInt = rgTempNum c (rgTempRaw w) :=
  toInt_rgTempNum hc (rgTempRaw_lt w)

/-- R182's range: the least and the largest raw value give its ends. -/
theorem rgRain_default_mem {raw : Nat} (hraw : raw < 2 ^ 16) :
    10 ≤ rgRain Config.default raw ∧ rgRain Config.default raw ≤ 70788 := by
  simp only [rgRain, Config.default]
  omega

/-- R183's range. -/
theorem rgTempNum_default_mem {raw : Nat} (hraw : raw < 2 ^ 16) :
    -1220 ≤ rgTempNum Config.default raw ∧ rgTempNum Config.default raw ≤ 64315 := by
  rw [rgTempNum_default]
  omega

end RgExact

/-- Settles O35. R8(j) and (k) keep the two computed fields from wrapping; the others cannot, as two
bytes fit 16 bits. -/
theorem extractRgIsExact : Obligations.ExtractRgIsExact := by
  unfold Obligations.ExtractRgIsExact
  refine ⟨fun c w hc => ?_, fun w => ?_⟩
  · exact ⟨rfl, toNat_extractRg_id w, toNat_extractRg_rainRaw w, toNat_extractRg_rain w hc,
      toNat_extractRg_tempRaw w, toInt_extractRg_tempNum w hc, rfl, rfl⟩
  · have hdefault : Config.default.wellFormed = true := configurationCheckIsTheSpecs.2
    obtain ⟨hrainLow, hrainHigh⟩ := rgRain_default_mem (rgRainRaw_lt w)
    obtain ⟨htempLow, htempHigh⟩ := rgTempNum_default_mem (rgTempRaw_lt w)
    rw [toNat_extractRg_rain w hdefault, toInt_extractRg_tempNum w hdefault]
    exact ⟨hrainLow, hrainHigh, htempLow, htempHigh⟩

/-! ## The F007TP fields (R187 to R191) -/

section F7Exact

variable {c : Config} (f : BitVec 40)

/-- R8(l): three bits and the bias fit the four bits of the id (R188). -/
theorem toNat_extractF7_id (hc : c.wellFormed = true) :
    (extractF7 c f).id.toNat = val f 5 7 + c.f7IdBias := by
  obtain ⟨-, -, -, -, -, -, -, -, -, -, hid⟩ := Config.wellFormed_iff_checks.1 hc
  have hbias := Config.idFits_iff.1 hid
  have hval : val f 5 7 < 2 ^ 3 := val_lt_two_pow f
  exact toNat_ofNat_of_lt (by omega)

/-- R189: the magnitude has eleven bits. -/
theorem f7Mag_lt : val f 13 23 < 2 ^ 11 := val_lt_two_pow f

theorem toNat_extractF7_mag : (extractF7 c f).mag.toNat = val f 13 23 :=
  toNat_ofNat_of_lt (f7Mag_lt f)

/-- R190: the integer part is 204 at most. -/
theorem toNat_extractF7_int : (extractF7 c f).int.toNat = val f 13 23 / 10 := by
  have hmag := f7Mag_lt f
  exact toNat_ofNat_of_lt (by omega)

theorem toNat_extractF7_frac : (extractF7 c f).frac.toNat = val f 13 23 % 10 :=
  toNat_ofNat_of_lt (by omega)

theorem toNat_extractF7_hum : (extractF7 c f).hum.toNat = val f 24 31 :=
  toNat_ofNat_of_lt (val_lt_two_pow f)

end F7Exact

/-- Settles O36. Each slice fits the field it is put in; R8(l) does it for the biased id. -/
theorem extractF7IsExact : Obligations.ExtractF7IsExact := by
  unfold Obligations.ExtractF7IsExact
  intro c f hc
  exact ⟨rfl, toNat_extractF7_id f hc, rfl, toNat_extractF7_mag f, toNat_extractF7_int f,
    toNat_extractF7_frac f, toNat_extractF7_hum f⟩

end Sys2Proof.Machine
end

section
/-! What 45_cycle.md says: the operation a step runs (R200), HOLD and idle clocks (R201), the step a token
is emitted on (R202), CYCLE_START (R203), the finish operations as outcomes and as their units one after
another (R205, R206), and a frame of any durations (R207); and the statements settled. -/

namespace Sys2Proof.Machine

variable {s t : State} {n : Nat}

/-! ## The operation a step runs (R200) -/

theorem step_of_selectFault {f : Fault} (hc : ConfigFixed s) (hq : s.request = none)
    (hs : select s = .error f) : step s = .fault f := by
  simp only [step, fetch, hq, hs, withConfig_of_fixed hc]

/-- Settles O5. -/
theorem stepRunsFetchedOperation : Obligations.StepRunsFetchedOperation := by
  unfold Obligations.StepRunsFetchedOperation
  exact fun s => ⟨fun i hq hs => step_of_selected hq hs,
    fun b i hq hd _ => step_of_requested hq hd, fun f hc hq hs => step_of_selectFault hc hq hs⟩

/-! ## HOLD and idle clocks (R201) -/

theorem exec_hold_of_idle (hc : ConfigFixed s) (hr : s.port.rst = false)
    (hv : s.port.inValid = false) : exec .hold s = .next s.clearResult.nextEdge :=
  exec_hold_eq_next_iff.2 ⟨hc, select_of_idle hr hv, rfl⟩

/-- Settles O37. -/
theorem holdOnlyClearsOutputs : Obligations.HoldOnlyClearsOutputs := by
  unfold Obligations.HoldOnlyClearsOutputs
  intro s hc hr hv
  exact ⟨_, exec_hold_of_idle hc hr hv, rfl, rfl, rfl⟩

theorem step_idle (hl : LegalRun s) (hr : s.port.rst = false) (hv : s.port.inValid = false) :
    step s = .next s.clearResult.nextEdge := by
  rw [step_of_selected hl.noRequest (select_of_idle hr hv), exec_hold_of_idle hl.configFixed hr hv]

/-- No edge to come carries a token or a reset. -/
def InputIdle (s : State) : Prop := ∀ p ∈ s.port :: s.pending, p.rst = false ∧ p.inValid = false

/-- After the input to come has run out the edges are idle too (log 7). -/
theorem InputIdle.nextEdge (h : InputIdle s) : InputIdle s.nextEdge := by
  have ⟨_, hpending⟩ := List.forall_mem_cons.1 h
  unfold InputIdle
  rw [State.nextEdge_port, State.nextEdge_pending]
  cases hlist : s.pending with
  | nil => simp [PortIn.idle]
  | cons q qs => simpa [hlist] using hpending

/-- Idle clocks emit nothing, and but for the outputs the registers stay. -/
theorem steps_of_idle (n : Nat) (hl : LegalRun s) (hidle : InputIdle s) :
    ∃ t, LegalSteps n s t [] ∧ t.arch = { s.arch with res := if n = 0 then s.res else .zero } := by
  induction n generalizing s with
  | zero => exact ⟨s, .nil hl, rfl⟩
  | succ n ih =>
    obtain ⟨hr, hv⟩ := hidle s.port (List.mem_cons_self ..)
    have hstep := step_idle hl hr hv
    obtain ⟨t, hsteps, harch⟩ := ih (hl.step hstep) (InputIdle.nextEdge (s := s.clearResult) hidle)
    refine ⟨t, .quiet hl hstep rfl hsteps, ?_⟩
    simpa using harch

/-- Settles O38. -/
theorem idleClocksChangeNothing : Obligations.IdleClocksChangeNothing := by
  unfold Obligations.IdleClocksChangeNothing
  intro n s hl hidle
  obtain ⟨t, hsteps, harch⟩ := steps_of_idle n hl hidle
  exact ⟨t, hsteps.run_eq, hsteps.emitted_eq, harch⟩

/-! ## The step a token is emitted on (R202) -/

/-- A reset edge of a run. -/
theorem step_reset (hl : LegalRun s) (hr : s.port.rst = true) :
    step s = .next s.resetRegisters.nextEdge := by
  rw [step_of_selected hl.noRequest (select_of_reset hr)]
  exact exec_reset_eq_next_iff.2 ⟨hl.configFixed, select_of_reset hr, rfl⟩

/-- The coming edge is the last of a decode cycle: the last attempt of a search, without a sync, or the
last pulse of a frame. -/
def EndsCycle (s : State) : Prop :=
  s.port.rst = false ∧ s.port.inValid = true ∧
    ((s.phase = phaseSearch ∧ s.att + 1 = s.cfg.maxAttempts ∧
        neverSyncs s.cfg s.cnt.toNat [s.port.inDur] = true) ∨
      (s.phase = phaseCapRg ∧ s.idx.toNat = 63) ∨
      (s.phase = phaseCapF7 ∧ s.idx.toNat = 38))

section EndsCycle

theorem not_endsCycle_of_reset (hr : s.port.rst = true) : ¬ EndsCycle s := by
  simp [EndsCycle, hr]

theorem not_endsCycle_of_idle (hv : s.port.inValid = false) : ¬ EndsCycle s := by
  simp [EndsCycle, hv]

variable (hr : s.port.rst = false) (hv : s.port.inValid = true)

include hr hv

theorem endsCycle_search_iff (hp : s.phase = phaseSearch) :
    EndsCycle s ↔ s.att + 1 = s.cfg.maxAttempts ∧
      neverSyncs s.cfg s.cnt.toNat [s.port.inDur] = true := by
  simp [EndsCycle, hr, hv, hp]

theorem endsCycle_capRg_iff (hp : s.phase = phaseCapRg) : EndsCycle s ↔ s.idx.toNat = 63 := by
  simp [EndsCycle, hr, hv, hp]

theorem endsCycle_capF7_iff (hp : s.phase = phaseCapF7) : EndsCycle s ↔ s.idx.toNat = 38 := by
  simp [EndsCycle, hr, hv, hp]

end EndsCycle

theorem neverSyncs_single_iff {c : Config} {cnt d : Nat} : neverSyncs c cnt [d] = true ↔
    clsRg c d ≠ .syncMarker ∧ ¬ (clsF7 c d = .longBit ∧ c.preambleRun < cnt) := by
  rw [neverSyncs_cons_iff, neverSyncs]
  simp only [and_true]

/-- A search step other than case T clears the outputs (41_detector.md R121). -/
theorem detect_res_of_not_timeout {d : Nat}
    (h : ¬ (s.att + 1 = s.cfg.maxAttempts ∧ neverSyncs s.cfg s.cnt.toNat [d] = true)) :
    (detect s d).res = .zero := by
  rw [neverSyncs_single_iff] at h
  unfold detect
  split_ifs with hY hP hT
  · rfl
  · rfl
  · exact absurd ⟨hT, hY, hP⟩ h
  · rfl

/-- A step of a run ends its cycle with a token, or clears the outputs. -/
inductive CycleStep (s : State) : Prop
  | ends (hend : EndsCycle s) (u : State) (tok : Token)
      (hstep : step s = .next (u.endCycle tok).nextEdge)
  | goesOn (hgo : ¬ EndsCycle s) (t : State) (hstep : step s = .next t) (hres : t.res = .zero)

/-- On a valid token the phase and its counter decide which. -/
theorem cycleStep_of_token (hl : LegalRun s) (hr : s.port.rst = false) (hv : s.port.inValid = true) :
    CycleStep s := by
  obtain ⟨hp, -⟩ | ⟨hp, hle, -⟩ | ⟨hp, hle, -⟩ := hl.registersInRange
  · have hstep := step_search hl hr hv hp
    have hiff := endsCycle_search_iff hr hv hp
    by_cases hend : EndsCycle s
    · obtain ⟨hatt, hnever⟩ := hiff.1 hend
      obtain ⟨hrg, hrun⟩ := neverSyncs_single_iff.1 hnever
      rw [detect_of_lastAttempt hrg hrun hatt] at hstep
      exact .ends hend _ _ hstep
    · exact .goesOn hend _ hstep (detect_res_of_not_timeout (mt hiff.2 hend))
  · have hiff := endsCycle_capRg_iff hr hv hp
    obtain hlt | hlast := Nat.lt_or_eq_of_le hle
    · exact .goesOn (mt hiff.1 hlt.ne) _ (step_capture hl hr hv (.inl ⟨hp, hlt⟩)) rfl
    · exact .ends (hiff.2 hlast) _ _ (step_finishRg hl hr hv hp hlast)
  · have hiff := endsCycle_capF7_iff hr hv hp
    obtain hlt | hlast := Nat.lt_or_eq_of_le hle
    · exact .goesOn (mt hiff.1 hlt.ne) _ (step_capture hl hr hv (.inr ⟨hp, hlt⟩)) rfl
    · exact .ends (hiff.2 hlast) _ _ (step_finishF7 hl hr hv hp hlast)

theorem cycleStep_of_legalRun (hl : LegalRun s) : CycleStep s := by
  cases hr : s.port.rst with
  | true => exact .goesOn (not_endsCycle_of_reset hr) _ (step_reset hl hr) rfl
  | false =>
    cases hv : s.port.inValid with
    | true => exact cycleStep_of_token hl hr hv
    | false => exact .goesOn (not_endsCycle_of_idle hv) _ (step_idle hl hr hv) rfl

/-- Settles O44. -/
theorem tokenIsEmittedExactlyAtCycleEnd : Obligations.TokenIsEmittedExactlyAtCycleEnd := by
  unfold Obligations.TokenIsEmittedExactlyAtCycleEnd
  intro s hl
  cases cycleStep_of_legalRun hl with
  | ends hend u tok hstep =>
    exact ⟨_, hstep, iff_of_true rfl hend, fun _ => atCycleStart_endCycle tok u⟩
  | goesOn hgo t hstep hres =>
    have hquiet : ¬ t.res.valid = true := by simp [hres, ResultRegs.zero]
    exact ⟨t, hstep, iff_of_false hquiet hgo, fun hvalid => absurd hvalid hquiet⟩

/-! ## CYCLE_START (R203) -/

/-- Settles O39. -/
theorem cycleStartPreparesNextCycle : Obligations.CycleStartPreparesNextCycle := by
  unfold Obligations.CycleStartPreparesNextCycle
  exact fun s hc => exec_cycleStart_eq_next_iff.2 ⟨hc, rfl⟩

/-! ## The outcome of a frame (R205, R206, 60_exceptions.md R228) -/

section Outcomes

variable {c : Config} {ds : List Nat}

theorem finishRgToken_of_rejected (h : packRg c ds = none) :
    finishRgToken c ds = .reject .pulse .rainGauge := by
  rw [finishRgToken, h]

theorem finishRgToken_of_checksum_false {w : BitVec 64} (h : packRg c ds = some w)
    (hsum : checksumRg w = false) : finishRgToken c ds = .reject .checksum .rainGauge := by
  simp only [finishRgToken, h, judgeRg, hsum, Bool.false_eq_true, if_false]

theorem finishRgToken_of_accepted {w : BitVec 64} (h : packRg c ds = some w)
    (hsum : checksumRg w = true) : finishRgToken c ds = .acceptRg (extractRg c w) := by
  simp only [finishRgToken, h, judgeRg, hsum, if_true]

theorem finishF7Token_of_rejected (h : packF7 c ds = none) :
    finishF7Token c ds = .reject .pulse .f007tp := by
  rw [finishF7Token, h]

variable {f : BitVec 40}

theorem finishF7Token_of_header_false (h : packF7 c ds = some f) (hheader : headerF7 c f = false) :
    finishF7Token c ds = .reject .header .f007tp := by
  simp only [finishF7Token, h, judgeF7, hheader, Bool.false_eq_true, if_false]

theorem finishF7Token_of_crc_ne (h : packF7 c ds = some f) (hheader : headerF7 c f = true)
    (hcrc : (crc8F7 c f).toNat ≠ val f 32 39) : finishF7Token c ds = .reject .crc .f007tp := by
  simp only [finishF7Token, h, judgeF7, hheader, if_true, crcMatches, decide_eq_true_eq, if_neg hcrc]

theorem finishF7Token_of_accepted (h : packF7 c ds = some f) (hheader : headerF7 c f = true)
    (hcrc : (crc8F7 c f).toNat = val f 32 39) : finishF7Token c ds = .acceptF7 (extractF7 c f) := by
  simp only [finishF7Token, h, judgeF7, hheader, if_true, crcMatches, decide_eq_true_eq, if_pos hcrc]

end Outcomes

/-! ## FINISH_RG and FINISH_F7 (R205, R206) -/

theorem exec_finishRg_of_token (hc : ConfigFixed s) (ht : TokenEdge s) (hp : s.phase = phaseCapRg)
    (hidx : s.idx.toNat = 63) (hcnt : s.cnt = 0#3) (hatt : s.att = 0)
    (hwritten : ∀ i : Fin 64, i.val < 63 → s.written[i] = true) :
    exec .finishRg s = .next ((s.writeRaw s.port.inDur).endCycle
      (finishRgToken s.cfg (s.raw.toList.take 63 ++ [s.port.inDur]))).nextEdge := by
  have ⟨_, _, hfits⟩ := ht
  exact exec_finishRg_eq_next_iff.2 ⟨hc, select_finishRg_of_token ht hcnt hatt hp hidx, hfits,
    (take_all_written_iff 63).2 hwritten, rfl⟩

theorem exec_finishF7_of_token (hc : ConfigFixed s) (ht : TokenEdge s) (hp : s.phase = phaseCapF7)
    (hidx : s.idx.toNat = 38) (hcnt : s.cnt = 0#3) (hatt : s.att = 0)
    (hwritten : ∀ i : Fin 64, i.val < 38 → s.written[i] = true) :
    exec .finishF7 s = .next ((s.writeRaw s.port.inDur).endCycle
      (finishF7Token s.cfg (s.raw.toList.take 38 ++ [s.port.inDur]))).nextEdge := by
  have ⟨_, _, hfits⟩ := ht
  exact exec_finishF7_eq_next_iff.2 ⟨hc, select_finishF7_of_token ht hcnt hatt hp hidx, hfits,
    (take_all_written_iff 38).2 hwritten, rfl⟩

theorem writeRaw_raw_of_idx {k : Nat} (hk : k < 64) (hidx : s.idx.toNat = k) (d : Nat) :
    (s.writeRaw d).raw = s.raw.set k d hk := by
  subst hidx
  rfl

/-- Settles O40. -/
theorem finishRgEmitsFrameOutcome : Obligations.FinishRgEmitsFrameOutcome := by
  unfold Obligations.FinishRgEmitsFrameOutcome
  intro s hc ht hp hidx hcnt hatt hwritten frame
  exact ⟨_, exec_finishRg_of_token hc ht hp hidx hcnt hatt hwritten, rfl, rfl,
    atCycleStart_endCycle _ _, writeRaw_raw_of_idx _ hidx _,
    fun hpack => congrArg tokenRegs (finishRgToken_of_rejected hpack),
    fun _ hpack hsum => congrArg tokenRegs (finishRgToken_of_checksum_false hpack hsum),
    fun _ hpack hsum => congrArg tokenRegs (finishRgToken_of_accepted hpack hsum)⟩

/-- Settles O41. -/
theorem finishF7EmitsFrameOutcome : Obligations.FinishF7EmitsFrameOutcome := by
  unfold Obligations.FinishF7EmitsFrameOutcome
  intro s hc ht hp hidx hcnt hatt hwritten frame
  exact ⟨_, exec_finishF7_of_token hc ht hp hidx hcnt hatt hwritten, rfl, rfl,
    atCycleStart_endCycle _ _, writeRaw_raw_of_idx _ hidx _,
    fun hpack => congrArg tokenRegs (finishF7Token_of_rejected hpack),
    fun _ hpack hheader => congrArg tokenRegs (finishF7Token_of_header_false hpack hheader),
    fun _ hpack hheader hcrc => congrArg tokenRegs (finishF7Token_of_crc_ne hpack hheader hcrc),
    fun _ hpack hheader hcrc => congrArg tokenRegs (finishF7Token_of_accepted hpack hheader hcrc)⟩

/-! ## The units one after another (R205, R206; log 9) -/

/-- The nets after PACK_RG has shown an answer, and CHECKSUM_RG and EXTRACT_RG after it. -/
def rgChainNets (c : Config) (nets : Nets) (answer : Option (BitVec 64)) : Nets :=
  let packed := nets.showPackRg answer
  let checked := { packed with checksumRg := packed.packRg.map checksumRg }
  { checked with extractRg := shownRgFields c checked }

/-- The nets after PACK_F7 has shown an answer, and HEADER_F7, CRC8_F7 and EXTRACT_F7 after it. -/
def f7ChainNets (c : Config) (nets : Nets) (answer : Option (BitVec 40)) : Nets :=
  let packed := nets.showPackF7 answer
  let headed := { packed with headerF7 := packed.packF7.map (headerF7 c) }
  let summed := { headed with crc8F7 := shownCrc8F7 c headed }
  { summed with extractF7 := shownF7Fields c summed }

/-- The three RainGauge units name the outcome of the frame. -/
theorem rgNetsToken_rgChainNets (c : Config) (ds : List Nat) (nets : Nets) :
    rgNetsToken (rgChainNets c nets (packRg c ds)) = some (finishRgToken c ds) := by
  cases hpack : packRg c ds with
  | none =>
    rw [finishRgToken_of_rejected hpack]
    rfl
  | some w =>
    cases hsum : checksumRg w with
    | false =>
      rw [finishRgToken_of_checksum_false hpack hsum]
      simp [rgChainNets, rgNetsToken, hsum]
    | true =>
      rw [finishRgToken_of_accepted hpack hsum]
      simp [rgChainNets, rgNetsToken, shownRgFields, hsum]

/-- The four F007TP units name the outcome of the frame. -/
theorem f7NetsToken_f7ChainNets (c : Config) (ds : List Nat) (nets : Nets) :
    f7NetsToken (f7ChainNets c nets (packF7 c ds)) = some (finishF7Token c ds) := by
  cases hpack : packF7 c ds with
  | none =>
    rw [finishF7Token_of_rejected hpack]
    rfl
  | some f =>
    cases hheader : headerF7 c f with
    | false =>
      rw [finishF7Token_of_header_false hpack hheader]
      simp [f7ChainNets, f7NetsToken, shownCrc8F7, hheader]
    | true =>
      by_cases hcrc : (crc8F7 c f).toNat = val f 32 39
      · rw [finishF7Token_of_accepted hpack hheader hcrc]
        simp [f7ChainNets, f7NetsToken, shownCrc8F7, shownF7Fields, crcMatches, hheader, hcrc]
      · rw [finishF7Token_of_crc_ne hpack hheader hcrc]
        simp [f7ChainNets, f7NetsToken, shownCrc8F7, crcMatches, hheader, hcrc]

/-! Each unit evaluated after another one only shows more nets. -/

section AfterUnit

variable (hc : ConfigFixed s) (nets : Nets)

include hc

theorem exec_checksumRg_showNets : exec .checksumRg (s.showNets nets).takeRequest =
    .next (s.showNets { nets with checksumRg := nets.packRg.map checksumRg }).takeRequest :=
  exec_checksumRg_eq_next_iff.2 ⟨hc, rfl⟩

theorem exec_extractRg_showNets : exec .extractRg (s.showNets nets).takeRequest =
    .next (s.showNets { nets with extractRg := shownRgFields s.cfg nets }).takeRequest :=
  exec_extractRg_eq_next_iff.2 ⟨hc, rfl⟩

theorem exec_headerF7_showNets : exec .headerF7 (s.showNets nets).takeRequest =
    .next (s.showNets { nets with headerF7 := nets.packF7.map (headerF7 s.cfg) }).takeRequest :=
  exec_headerF7_eq_next_iff.2 ⟨hc, rfl⟩

theorem exec_crc8F7_showNets : exec .crc8F7 (s.showNets nets).takeRequest =
    .next (s.showNets { nets with crc8F7 := shownCrc8F7 s.cfg nets }).takeRequest :=
  exec_crc8F7_eq_next_iff.2 ⟨hc, rfl⟩

theorem exec_extractF7_showNets : exec .extractF7 (s.showNets nets).takeRequest =
    .next (s.showNets { nets with extractF7 := shownF7Fields s.cfg nets }).takeRequest :=
  exec_extractF7_eq_next_iff.2 ⟨hc, rfl⟩

end AfterUnit

/-- The RainGauge units evaluated in turn write no register; their nets are those of the chain. -/
theorem exec_rgChain (hc : ConfigFixed s) (hfits : s.port.inDur < 2 ^ s.cfg.durW)
    (hwritten : ∀ i : Fin 64, i.val < 63 → s.written[i] = true) :
    ∃ s₁ s₂, exec .packRg s = .next s₁ ∧ exec .checksumRg s₁ = .next s₂ ∧
      exec .extractRg s₂ = .next (s.showNets (rgChainNets s.cfg s.nets
        (packRg s.cfg (s.raw.toList.take 63 ++ [s.port.inDur])))).takeRequest := by
  have hread := (take_all_written_iff 63).2 hwritten
  exact ⟨_, _, exec_packRg_eq_next_iff.2 ⟨hc, hfits, hread, rfl⟩,
    exec_checksumRg_showNets hc _, exec_extractRg_showNets hc _⟩

/-- The F007TP units evaluated in turn write no register; their nets are those of the chain. -/
theorem exec_f7Chain (hc : ConfigFixed s) (hfits : s.port.inDur < 2 ^ s.cfg.durW)
    (hwritten : ∀ i : Fin 64, i.val < 38 → s.written[i] = true) :
    ∃ s₁ s₂ s₃, exec .packF7 s = .next s₁ ∧ exec .headerF7 s₁ = .next s₂ ∧
      exec .crc8F7 s₂ = .next s₃ ∧
      exec .extractF7 s₃ = .next (s.showNets (f7ChainNets s.cfg s.nets
        (packF7 s.cfg (s.raw.toList.take 38 ++ [s.port.inDur])))).takeRequest := by
  have hread := (take_all_written_iff 38).2 hwritten
  exact ⟨_, _, _, exec_packF7_eq_next_iff.2 ⟨hc, hfits, hread, rfl⟩,
    exec_headerF7_showNets hc _, exec_crc8F7_showNets hc _, exec_extractF7_showNets hc _⟩

/-- Settles O42. The units leave the registers and the port as they were, so the finish operation runs
after them as it would before. -/
theorem finishIsChainOfUnits : Obligations.FinishIsChainOfUnits := by
  unfold Obligations.FinishIsChainOfUnits
  constructor
  · intro s hc ht hp hidx hcnt hatt hwritten
    have ⟨_, _, hfits⟩ := ht
    obtain ⟨s₁, s₂, hpack, hsum, hextract⟩ := exec_rgChain hc hfits hwritten
    exact ⟨s₁, s₂, _, _, _, hpack, hsum, hextract,
      exec_finishRg_of_token hc ht hp hidx hcnt hatt hwritten, rgNetsToken_rgChainNets _ _ _, rfl⟩
  · intro s hc ht hp hidx hcnt hatt hwritten
    have ⟨_, _, hfits⟩ := ht
    obtain ⟨s₁, s₂, s₃, hpack, hheader, hcrc, hextract⟩ := exec_f7Chain hc hfits hwritten
    exact ⟨s₁, s₂, s₃, _, _, _, hpack, hheader, hcrc, hextract,
      exec_finishF7_of_token hc ht hp hidx hcnt hatt hwritten, f7NetsToken_f7ChainNets _ _ _, rfl⟩

/-! ## A frame of any durations (R207) -/

/-- The steps of a fed sequence leave the input after it at the port. -/
theorem LegalSteps.port_pending_of_feeds {out : List ResultRegs} {ds : List Nat} {rest : List PortIn}
    (h : LegalSteps n s t out) (hlen : ds.length = n) (hfeeds : Feeds s ds rest) :
    t.port = rest.headD .idle ∧ t.pending = rest.tail := by
  have hafter := h.presents (.of_feeds hfeeds)
  rwa [List.drop_left' (by simpa using hlen)] at hafter

/-- Settles O55. -/
theorem rainGaugeFrameTakesSixtyFourTokens : Obligations.RainGaugeFrameTakesSixtyFourTokens := by
  unfold Obligations.RainGaugeFrameTakesSixtyFourTokens
  intro s ds rest hl hp hi hlen hfeeds
  obtain ⟨t, hsteps, hcycle, hraw, hres⟩ := steps_of_rgFrame hl hp hi hlen (.of_feeds hfeeds)
  exact ⟨t, hsteps.run_eq, hcycle, hraw, hres, hsteps.emitted_eq,
    hsteps.port_pending_of_feeds hlen hfeeds⟩

/-- Settles O56. -/
theorem f007TPFrameTakesThirtyNineTokens : Obligations.F007TPFrameTakesThirtyNineTokens := by
  unfold Obligations.F007TPFrameTakesThirtyNineTokens
  intro s ds rest hl hp hi hlen hfeeds
  obtain ⟨t, hsteps, hcycle, hraw, hres⟩ := steps_of_f7Frame hl hp hi hlen (.of_feeds hfeeds)
  exact ⟨t, hsteps.run_eq, hcycle, hraw, hres, hsteps.emitted_eq,
    hsteps.port_pending_of_feeds hlen hfeeds⟩

end Sys2Proof.Machine
end

section
/-! What 60_exceptions.md says of a run: no fault and no refusal is reached (R234); and the statement
about it settled. -/

namespace Sys2Proof.Machine

variable {s : State}

/-- Progress: whether a step of a run ends its cycle or not, it answers a next state, and that is a
state of a run again. -/
theorem LegalRun.exists_step (hl : LegalRun s) : ∃ t, Machine.step s = .next t ∧ LegalRun t := by
  cases cycleStep_of_legalRun hl with
  | ends _ u tok hstep => exact ⟨_, hstep, hl.step hstep⟩
  | goesOn _ t hstep _ => exact ⟨t, hstep, hl.step hstep⟩

/-- A run goes on for every number of steps, whatever tokens it emits. -/
theorem LegalRun.exists_steps (n : Nat) (hl : LegalRun s) : ∃ t out, LegalSteps n s t out := by
  induction n generalizing s with
  | zero => exact ⟨s, [], .nil hl⟩
  | succ n ih =>
    obtain ⟨u, hstep, hu⟩ := hl.exists_step
    obtain ⟨t, out, hrest⟩ := ih hu
    exact ⟨t, _, .cons hl hstep hrest⟩

/-- Settles O50. -/
theorem runsNeverStop : Obligations.RunsNeverStop := by
  unfold Obligations.RunsNeverStop
  intro n s hl
  obtain ⟨t, out, hsteps⟩ := hl.exists_steps n
  exact ⟨t, hsteps.run_eq, hsteps.legalRun⟩

end Sys2Proof.Machine
end

section
/-! What 70_reset_and_hazards.md says of reset: what a reset edge does from every state, legal or not
(R250, R251, R253), and the state the machine starts in (R252, R254); and the statements about them
settled. -/

namespace Sys2Proof.Machine

variable {s : State}

/-! ## A reset edge (R250, R251, R253) -/

/-- Only the configuration and `rst` decide: the registers and `in_valid` are not read. -/
theorem exec_reset_of_rst (hc : ConfigFixed s) (hr : s.port.rst = true) :
    exec .reset s = .next s.resetRegisters.nextEdge :=
  exec_reset_eq_next_iff.2 ⟨hc, select_of_reset hr, rfl⟩

/-- As `step_reset`, but from every state: the registers need not be in range. -/
theorem step_of_rst (hc : ConfigFixed s) (hq : s.request = none) (hr : s.port.rst = true) :
    step s = .next s.resetRegisters.nextEdge := by
  rw [step_of_selected hq (select_of_reset hr), exec_reset_of_rst hc hr]

/-- Reset needs no invariant before it: a cycle starts, and the outputs are 0. -/
theorem inv_resetRegisters (hc : ConfigFixed s) : Inv s.resetRegisters :=
  inv_startCycle (s := s.clearResult) hc (.inl rfl)

theorem atCycleStart_resetRegisters (s : State) : AtCycleStart s.resetRegisters :=
  ⟨rfl, rfl, rfl, rfl, rfl⟩

/-- After a reset edge the registers hold what a further reset would write. -/
theorem resetRegisters_arch_of_reset (s : State) :
    s.resetRegisters.nextEdge.resetRegisters.nextEdge.arch = s.resetRegisters.nextEdge.arch := by
  simp only [State.nextEdge_arch, State.resetRegisters_arch]

/-- Settles O46. -/
theorem resetRecoversAndIsIdempotent : Obligations.ResetRecoversAndIsIdempotent := by
  unfold Obligations.ResetRecoversAndIsIdempotent
  intro s hc hq hr
  have hinv : Inv s.resetRegisters := inv_resetRegisters hc
  refine ⟨_, step_of_rst hc hq hr, hinv, atCycleStart_resetRegisters s, rfl, fun hr' => ?_⟩
  exact ⟨_, step_of_rst (s := s.resetRegisters.nextEdge) hc rfl hr', resetRegisters_arch_of_reset s⟩

/-- Settles O45. -/
theorem resetClearsEverything : Obligations.ResetClearsEverything := by
  unfold Obligations.ResetClearsEverything
  intro s hc hr
  exact ⟨_, exec_reset_of_rst hc hr, rfl, rfl, rfl⟩

/-! ## The state after reset (R252, R254) -/

/-- Settles O47. -/
theorem resetValuesAreTheSpecs : Obligations.ResetValuesAreTheSpecs := by
  unfold Obligations.ResetValuesAreTheSpecs
  have hunwritten (i : Fin 64) : State.reset.written[i] = false := by simp [State.reset]
  exact ⟨rfl, rfl, rfl, rfl, hunwritten, rfl⟩

theorem configFixed_reset : ConfigFixed State.reset := ⟨rfl, configurationCheckIsTheSpecs.2⟩

/-- A reset writes nothing that the machine after reset does not hold already. -/
theorem resetRegisters_reset : State.reset.resetRegisters = State.reset := rfl

theorem inv_reset : Inv State.reset :=
  resetRegisters_reset ▸ inv_resetRegisters configFixed_reset

/-- The nets at reset show nothing at all. -/
theorem netsFollowFrame_reset : NetsFollowFrame State.reset :=
  ⟨.inl rfl, .inl rfl, .inl rfl, .inl rfl, .inl rfl⟩

/-- Any input the port can carry may follow a reset. -/
theorem legalRun_reset {ps : List PortIn} (hfit : ∀ p ∈ ps, p.inDur < 2 ^ Config.default.durW) :
    LegalRun { State.reset with pending := ps } := by
  have hinputs : InputsFit { State.reset with pending := ps } :=
    List.forall_mem_cons.2 ⟨Nat.two_pow_pos _, hfit⟩
  exact ⟨inv_reset, hinputs, rfl⟩

/-- Settles O48. -/
theorem resetMeetsInvariant : Obligations.ResetMeetsInvariant := by
  unfold Obligations.ResetMeetsInvariant
  exact ⟨inv_reset, netsFollowFrame_reset, fun _ hfit => legalRun_reset hfit⟩

end Sys2Proof.Machine
end
